-- ==== Sys2Proof/Word.lean ====
section
/-! DEFINITION. The machine's unit of data (`20_memory.md` R61) and nothing else. -/

namespace Sys2Proof

/-- The addressable unit of every buffer and the unit of the input stream (`20_memory.md` R61). -/
abbrev Byte := BitVec 8

end Sys2Proof
end

