-- ==== Sys2Proof/Machine/Codes.lean ====
section
/-! DEFINITION. The enumerations the registers hold: automaton states (`10_state.md` R35), packet types
(`10_state.md` R34), error events and severities (`60_exceptions.md` R378). -/

namespace Sys2Proof.Machine

/-- The chains of `10_state.md` R36 whose states, frame and validation are parameters (`42_binary_chains.md` R294, R295;
`93_implementation_defined.md` U8, U9; log entries 6 and 7). -/
inductive OpenChain where
  | superstar2 | navcom | dle | zodiac | sirf | italk | at | rtcm2
deriving DecidableEq, Repr

/-- The names of the states an open chain may have: no more than the 42 codes `10_state.md` R35 leaves unused
(log entry 6). -/
abbrev BranchState := Fin 42

end Sys2Proof.Machine

namespace Sys2Proof

/-- Parameter: which of the 42 codes from 86 on, unused in the baseline (`10_state.md` R35), a state of an open chain has;
log entry 6. -/
opaque Config.branchCode : Machine.OpenChain → Machine.BranchState → Fin 42

end Sys2Proof

namespace Sys2Proof.Machine

/-- The automaton states: the 86 of `10_state.md` R35, in the order of their codes, and those of the open chains, which the
baseline does not have. -/
inductive LexState where
  | groundState
  | commentBody
  | commentRecognized
  | nmeaDollar
  | nmeaLeadG
  | nmeaLeadA
  | nmeaLeadB
  | nmeaLeadH
  | nmeaLeadI
  | nmeaLeadQ
  | nmeaLeadS
  | nmeaLeadT
  | nmeaLeadW
  | nmeaLeadY
  | nmeaVendorLead
  | nmeaPashrA
  | nmeaPashrS
  | nmeaPashrH
  | nmeaBinaryBody
  | nmeaBinaryCr
  | nmeaLeaderEnd
  | nmeaCr
  | nmeaRecognized
  | nmeaBang
  | aisLead1
  | jsonBody
  | jsonString
  | jsonEscape
  | jsonValue
  | jsonRecognized
  | ubxLeader1
  | ubxLeader2
  | ubxClassId
  | ubxMessageId
  | ubxLength1
  | ubxLength2
  | ubxPayload
  | ubxChecksumA
  | ubxRecognized
  | allyLeader1
  | allyLeader2
  | allyClassId
  | allyMessageId
  | allyLength1
  | allyLength2
  | allyPayload
  | allyChecksumA
  | allyRecognized
  | casicLeader1
  | casicLeader2
  | casicLength1
  | casicLength2
  | casicClassId
  | casicMessageId
  | casicPayload
  | casicChecksum1
  | casicChecksum2
  | casicChecksum3
  | casicRecognized
  | geostarLeader1
  | geostarLeader2
  | geostarLeader3
  | geostarLeader4
  | geostarMessageId1
  | geostarMessageId2
  | geostarLength1
  | geostarLength2
  | geostarPayload
  | geostarChecksum1
  | geostarChecksum2
  | geostarChecksum3
  | geostarRecognized
  | greisId1
  | greisId2
  | greisLength1
  | greisLength2
  | greisLength3
  | greisPayload
  | greisRecognized
  | rtcm3Leader1
  | rtcm3Length1
  | rtcm3Length2
  | rtcm3Payload
  | rtcm3Crc1
  | rtcm3Crc2
  | rtcm3Recognized
  /-- A state of an open chain that is switched on (`42_binary_chains.md` R294, R295; log entry 6). -/
  | branch (ch : OpenChain) (k : BranchState)
deriving DecidableEq, Repr, Inhabited

/-- A state of an open chain, which the baseline never holds (`10_state.md` R35). -/
def LexState.isBranch : LexState → Bool
  | .branch _ _ => true
  | _ => false

/-- The 7-bit state code of `10_state.md` R35, held by the register `state` (R21). -/
def LexState.code : LexState → BitVec 7
  | .groundState => 0
  | .commentBody => 1
  | .commentRecognized => 2
  | .nmeaDollar => 3
  | .nmeaLeadG => 4
  | .nmeaLeadA => 5
  | .nmeaLeadB => 6
  | .nmeaLeadH => 7
  | .nmeaLeadI => 8
  | .nmeaLeadQ => 9
  | .nmeaLeadS => 10
  | .nmeaLeadT => 11
  | .nmeaLeadW => 12
  | .nmeaLeadY => 13
  | .nmeaVendorLead => 14
  | .nmeaPashrA => 15
  | .nmeaPashrS => 16
  | .nmeaPashrH => 17
  | .nmeaBinaryBody => 18
  | .nmeaBinaryCr => 19
  | .nmeaLeaderEnd => 20
  | .nmeaCr => 21
  | .nmeaRecognized => 22
  | .nmeaBang => 23
  | .aisLead1 => 24
  | .jsonBody => 25
  | .jsonString => 26
  | .jsonEscape => 27
  | .jsonValue => 28
  | .jsonRecognized => 29
  | .ubxLeader1 => 30
  | .ubxLeader2 => 31
  | .ubxClassId => 32
  | .ubxMessageId => 33
  | .ubxLength1 => 34
  | .ubxLength2 => 35
  | .ubxPayload => 36
  | .ubxChecksumA => 37
  | .ubxRecognized => 38
  | .allyLeader1 => 39
  | .allyLeader2 => 40
  | .allyClassId => 41
  | .allyMessageId => 42
  | .allyLength1 => 43
  | .allyLength2 => 44
  | .allyPayload => 45
  | .allyChecksumA => 46
  | .allyRecognized => 47
  | .casicLeader1 => 48
  | .casicLeader2 => 49
  | .casicLength1 => 50
  | .casicLength2 => 51
  | .casicClassId => 52
  | .casicMessageId => 53
  | .casicPayload => 54
  | .casicChecksum1 => 55
  | .casicChecksum2 => 56
  | .casicChecksum3 => 57
  | .casicRecognized => 58
  | .geostarLeader1 => 59
  | .geostarLeader2 => 60
  | .geostarLeader3 => 61
  | .geostarLeader4 => 62
  | .geostarMessageId1 => 63
  | .geostarMessageId2 => 64
  | .geostarLength1 => 65
  | .geostarLength2 => 66
  | .geostarPayload => 67
  | .geostarChecksum1 => 68
  | .geostarChecksum2 => 69
  | .geostarChecksum3 => 70
  | .geostarRecognized => 71
  | .greisId1 => 72
  | .greisId2 => 73
  | .greisLength1 => 74
  | .greisLength2 => 75
  | .greisLength3 => 76
  | .greisPayload => 77
  | .greisRecognized => 78
  | .rtcm3Leader1 => 79
  | .rtcm3Length1 => 80
  | .rtcm3Length2 => 81
  | .rtcm3Payload => 82
  | .rtcm3Crc1 => 83
  | .rtcm3Crc2 => 84
  | .rtcm3Recognized => 85
  | .branch ch k => BitVec.ofNat 7 (86 + (Config.branchCode ch k).val)

/-- The 86 states of `10_state.md` R35, in the order of the codes. -/
def LexState.all : List LexState :=
  [.groundState, .commentBody, .commentRecognized, .nmeaDollar, .nmeaLeadG, .nmeaLeadA,
   .nmeaLeadB, .nmeaLeadH, .nmeaLeadI, .nmeaLeadQ, .nmeaLeadS, .nmeaLeadT,
   .nmeaLeadW, .nmeaLeadY, .nmeaVendorLead, .nmeaPashrA, .nmeaPashrS, .nmeaPashrH,
   .nmeaBinaryBody, .nmeaBinaryCr, .nmeaLeaderEnd, .nmeaCr, .nmeaRecognized, .nmeaBang,
   .aisLead1, .jsonBody, .jsonString, .jsonEscape, .jsonValue, .jsonRecognized,
   .ubxLeader1, .ubxLeader2, .ubxClassId, .ubxMessageId, .ubxLength1, .ubxLength2,
   .ubxPayload, .ubxChecksumA, .ubxRecognized, .allyLeader1, .allyLeader2, .allyClassId,
   .allyMessageId, .allyLength1, .allyLength2, .allyPayload, .allyChecksumA, .allyRecognized,
   .casicLeader1, .casicLeader2, .casicLength1, .casicLength2, .casicClassId, .casicMessageId,
   .casicPayload, .casicChecksum1, .casicChecksum2, .casicChecksum3, .casicRecognized, .geostarLeader1,
   .geostarLeader2, .geostarLeader3, .geostarLeader4, .geostarMessageId1, .geostarMessageId2, .geostarLength1,
   .geostarLength2, .geostarPayload, .geostarChecksum1, .geostarChecksum2, .geostarChecksum3, .geostarRecognized,
   .greisId1, .greisId2, .greisLength1, .greisLength2, .greisLength3, .greisPayload,
   .greisRecognized, .rtcm3Leader1, .rtcm3Length1, .rtcm3Length2, .rtcm3Payload, .rtcm3Crc1,
   .rtcm3Crc2, .rtcm3Recognized]

/-- The state of `10_state.md` R35 with a given code; it has none with a code from 86 to 127. -/
def LexState.ofCode? (n : BitVec 7) : Option LexState :=
  LexState.all.find? (fun q => q.code == n)

/-- The nine `_RECOGNIZED` states (`10_state.md` R35), one per validation pass (`40_lexer_core.md` R142), and those of the
open chains. -/
inductive Recog where
  | comment | nmea | json | ubx | allystar | casic | geostar | greis | rtcm3
  | branch (ch : OpenChain) (k : BranchState)
deriving DecidableEq, Repr

/-- The automaton state of a recognition (`10_state.md` R35: codes 2, 22, 29, 38, 47, 58, 71, 78, 85). -/
def Recog.state : Recog → LexState
  | .comment => .commentRecognized
  | .nmea => .nmeaRecognized
  | .json => .jsonRecognized
  | .ubx => .ubxRecognized
  | .allystar => .allyRecognized
  | .casic => .casicRecognized
  | .geostar => .geostarRecognized
  | .greis => .greisRecognized
  | .rtcm3 => .rtcm3Recognized
  | .branch ch k => .branch ch k

/-- Packet types (`10_state.md` R34), in the order of their codes; `bad` is only ever a result tag. -/
inductive PacketType where
  | nmea | ais | ubx | rtcm2 | rtcm3 | sirf | skytraq | greis | tsip | garmin | zodiac | geostar
  | allystar | casic | json | comment | bad | none | superstar2 | navcom | evermore | italk | tnt
  | garmintxt | oncore
deriving DecidableEq, Repr

/-- The packet types of an open chain (`10_state.md` R34, R36; `42_binary_chains.md` R294, R295), numbered as the parameter
`Config.branchValidate` picks one (log entry 6): a chain with one type has it for every number. -/
def OpenChain.packetType : OpenChain → Nat → PacketType
  | .superstar2, _ => .superstar2
  | .navcom, _ => .navcom
  | .dle, 0 => .tsip
  | .dle, 1 => .evermore
  | .dle, _ => .garmin
  | .zodiac, _ => .zodiac
  | .sirf, 0 => .sirf
  | .sirf, _ => .skytraq
  | .italk, _ => .italk
  | .at, 0 => .tnt
  | .at, 1 => .garmintxt
  | .at, _ => .oncore
  | .rtcm2, _ => .rtcm2

/-- The 5-bit packet-type code of `10_state.md` R34. -/
def PacketType.code : PacketType → BitVec 5
  | .nmea => 0
  | .ais => 1
  | .ubx => 2
  | .rtcm2 => 3
  | .rtcm3 => 4
  | .sirf => 5
  | .skytraq => 6
  | .greis => 7
  | .tsip => 8
  | .garmin => 9
  | .zodiac => 10
  | .geostar => 11
  | .allystar => 12
  | .casic => 13
  | .json => 14
  | .comment => 15
  | .bad => 16
  | .none => 17
  | .superstar2 => 18
  | .navcom => 19
  | .evermore => 20
  | .italk => 21
  | .tnt => 22
  | .garmintxt => 23
  | .oncore => 24

/-- The five error events of `60_exceptions.md` R371 to R375. -/
inductive Event where
  | framing | badCheck | length | full | oversize
deriving DecidableEq, Repr

/-- Log severities: LOW = 0, HIGH = 1 (`60_exceptions.md` R378). -/
inductive Severity where
  | low | high
deriving DecidableEq, Repr

/-- The event codes of `60_exceptions.md` R378. -/
def Event.code : Event → Nat
  | .framing => 1
  | .badCheck => 2
  | .length => 3
  | .full => 4
  | .oversize => 5

/-- The severity code of `60_exceptions.md` R378. -/
def Severity.code : Severity → Nat
  | .low => 0
  | .high => 1

/-- The severity each event is logged with (`60_exceptions.md` R378). -/
def Event.severity : Event → Severity
  | .framing => .low
  | .badCheck => .low
  | .length => .high
  | .full => .high
  | .oversize => .high

/-- What an event discards (`60_exceptions.md` R378, column "bytes discarded"). -/
inductive Discard where
  | candidate | wholeBuffer
deriving DecidableEq, Repr

/-- `60_exceptions.md` R378: `E_LENGTH` and `E_FULL` discard the whole input buffer, the others the candidate. -/
def Event.discards : Event → Discard
  | .framing => .candidate
  | .badCheck => .candidate
  | .length => .wholeBuffer
  | .full => .wholeBuffer
  | .oversize => .candidate

/-- The `LEX.PARSE` result of an event that ends the command (`60_exceptions.md` R378): tag and `cap`, with
`n = 0`; `E_FRAMING` ends nothing. -/
def Event.ends : Event → Option (PacketType × Bool)
  | .framing => Option.none
  | .badCheck => some (.bad, false)
  | .length => some (.none, true)
  | .full => some (.none, true)
  | .oversize => some (.bad, true)

/-- The byte spaces of `20_memory.md` R60. -/
inductive Space where
  | inBuf | outBuf | stash
deriving DecidableEq, Repr

/-- What the RTCM2 sub-recognizer may report of a byte (`42_binary_chains.md` R295). -/
inductive Rtcm2Report where
  | noSync | sync | message
deriving DecidableEq, Repr, Inhabited

end Sys2Proof.Machine
end

