-- ==== Sys2Proof/Config.lean ====
section
/-! DEFINITION. What an implementation fixes: the parameters of `00_scope.md` R7 to R11 and the hardwired registers of
`10_state.md` R36, R37, with their baseline values; and the free values, opaque constants. -/

namespace Sys2Proof

open Sys2Proof.Machine

/-- The read-only parameters and hardwired registers of an instance (`00_scope.md` R7, R8, R11; `10_state.md` R36, R37).
A model takes them as arguments (`92_eei_decisions.md`, table of parameters); log entry 5. -/
structure Config where
  /-- `MAX_PACKET_LENGTH` (`00_scope.md` R7). -/
  maxPacketLength : Nat
  /-- `IN_CAP` (`00_scope.md` R8). -/
  inCap : Nat
  /-- `OUT_CAP` (`00_scope.md` R8). -/
  outCap : Nat
  /-- `CFG.CHAIN_EN`, one bit per chain (`10_state.md` R36). -/
  chainEn : BitVec 18
  /-- `CFG.STASH_EN` (`10_state.md` R37). -/
  stashEn : Bool
  /-- `TALKER2`: for a first talker character its accepted second characters (`41_text_chains.md` R181). -/
  talker2 : List (Byte × List Byte)
  /-- `AIS_PREFIX` (`41_text_chains.md` R192). -/
  aisPrefix : List (Byte × Byte)
  /-- `NMEA_EXEMPT` (`41_text_chains.md` R189). -/
  nmeaExempt : List (List Byte)
  /-- `PLAUS`, (protocol, message ID, payload length); unused (`42_binary_chains.md` R293). -/
  plaus : List (PacketType × Nat × Nat)
deriving DecidableEq, Repr

/-- The 26 uppercase letters 0x41 to 0x5A. -/
def Config.upperLetters : List Byte :=
  (List.range 26).map (fun k => BitVec.ofNat 8 (0x41 + k))

/-- The ten first talker characters other than `P` (`30_encoding.md` R96, `41_text_chains.md` R178):
G A B H I Q S T W Y. -/
def Config.talkerFirsts : List Byte :=
  [0x47, 0x41, 0x42, 0x48, 0x49, 0x51, 0x53, 0x54, 0x57, 0x59]

/-- The baseline hardware (`00_scope.md` R7 to R11; `10_state.md` R36, R37; `41_text_chains.md` R181, R189, R192). -/
def Config.baseline : Config where
  maxPacketLength := 9216
  inCap := 18433
  outCap := 18433
  chainEn := 0x0A0FF
  stashEn := false
  talker2 := Config.talkerFirsts.map (fun x => (x, Config.upperLetters))
  aisPrefix :=
    [(0x41, 0x42), (0x41, 0x44), (0x41, 0x49), (0x41, 0x4E), (0x41, 0x52), (0x41, 0x53), (0x41, 0x54),
     (0x41, 0x58), (0x42, 0x53), (0x53, 0x41)]
  nmeaExempt :=
    [[0x24, 0x53, 0x54, 0x49, 0x2C],
     [0x24, 0x50, 0x4D, 0x54, 0x4B],
     [0x24, 0x50, 0x41, 0x53, 0x48, 0x52, 0x2C, 0x4D, 0x43, 0x41],
     [0x24, 0x50, 0x41, 0x53, 0x48, 0x52, 0x2C, 0x50, 0x42, 0x4E]]
  plaus := []

/-- The bits of `CFG.CHAIN_EN` whose chains no rule describes: 8 to 12, 14, 16, 17
(`92_eei_decisions.md`, table of parameters; `42_binary_chains.md` R294, R295). -/
def Config.openChainMask : BitVec 18 := 0x35F00

/-- The constraints on the parameters (`00_scope.md` R7, R8; `92_eei_decisions.md`, table of parameters), with every
feature whose rules the spec leaves open switched off. -/
abbrev Config.wf (c : Config) : Prop :=
  16 ≤ c.maxPacketLength ∧ c.maxPacketLength + 1 ≤ c.inCap ∧ c.maxPacketLength + 1 ≤ c.outCap ∧
    c.inCap < 2 ^ 32 ∧ c.chainEn &&& Config.openChainMask = 0 ∧ c.stashEn = false

/-- Free value: the byte found at an address outside a space's valid content (`20_memory.md` R78, `any value`);
log entry 9. -/
opaque Config.unspecifiedByte : Space → Nat → Byte

/-- Parameter of the open `RTCM2_HOOK`: the reset value of the sub-recognizer's state (`42_binary_chains.md` R295);
log entry 7. -/
opaque Config.rtcm2Reset : Nat

/-- Parameter of the open `RTCM2_HOOK`: `Rtcm2Step` (`42_binary_chains.md` R295), its state type encoded in `Nat`;
log entry 7. -/
opaque Config.rtcm2Step : Nat → Byte → Nat × Rtcm2Report

/-- Parameter of the open `RTCM2_HOOK`: the state of the RTCM2 branch in which a report that is not `NO_SYNC` and the
sub-recognizer's new state put the automaton (`41_text_chains.md` R173, `42_binary_chains.md` R295); log entry 7. -/
opaque Config.rtcm2Entry : Rtcm2Report → Nat → BranchState

/-- Parameter: the state an open chain's leader enters (`42_binary_chains.md` R294, `93_implementation_defined.md` U8);
log entry 6. -/
opaque Config.branchEntry : OpenChain → BranchState

/-- What a transition rule may read besides the state (`40_lexer_core.md` R136): the consumed byte, the two counts, the
candidate with the byte, and the configuration. -/
structure BranchView where
  byte : Byte
  candidate : List Byte
  pending : Nat
  jsonDepth : Nat
  cfg : Config
deriving DecidableEq, Repr

/-- The five actions of `40_lexer_core.md` R150 for a chain's own states; where a pushback or a drop names no state it is to
the ground state. -/
inductive BranchAct where
  | go (k : BranchState)
  | push (k : Option BranchState)
  | drop (k : Option BranchState)
  | cap
  | recog (k : BranchState)
deriving DecidableEq, Repr, Inhabited

/-- What a transition rule yields (`40_lexer_core.md` R150): the action and the new values of the two counts. -/
structure BranchMove where
  act : BranchAct
  pending : Nat
  jsonDepth : Nat
deriving DecidableEq, Repr, Inhabited

/-- Parameter: the transition rules of the states of an open chain, the RTCM2 branch among them
(`42_binary_chains.md` R294, R295; `93_implementation_defined.md` U8, U9); log entries 6 and 7. -/
opaque Config.branchRules : OpenChain → BranchState → BranchView → BranchMove

/-- Parameter: the validation pass of a recognition in an open chain (`40_lexer_core.md` R142): none for `Bad`, or the number
of the packet type among the chain's and the length of the accept span; log entries 6 and 7. -/
opaque Config.branchValidate : OpenChain → BranchState → List Byte → Option (Nat × Nat)

/-- The part of an instance the stash's rules may read and write (log entry 8): the automaton's position, the candidate
`inbuf[0..rp)`, the bytes `inbuf[rp..inlen)` still to be consumed, the two counts and the stash. -/
structure StashView where
  state : LexState
  read : List Byte
  unread : List Byte
  pending : Nat
  jsonDepth : Nat
  stash : List Byte
deriving DecidableEq, Repr, Inhabited

/-- Parameter: the stash's rules (`10_state.md` R33, `93_implementation_defined.md` U10). From the view before an iteration
and the view the iteration leaves without a stash, the view the iteration leaves; log entry 8. -/
opaque Config.stashRules : StashView → StashView → StashView

/-- Parameter of the stash's rules: how many iterations the bytes they give back may add to a `LEX.PARSE` that starts from
a view; log entries 8 and 17. -/
opaque Config.stashIterations : StashView → Nat

end Sys2Proof
end

