-- ==== Sys2Proof/Machine/State.lean ====
section
/-! DEFINITION. The state of one lexer instance, the reasons a step can stop, and the state after reset. -/

namespace Sys2Proof.Machine

/-- A byte space: the listed (address, byte) cells, addresses strictly rising (`Memory.wf`). A byte that is not
listed is unspecified (`20_memory.md` R78): a read of it is a free value (log entry 9). -/
abbrev Memory := List Host.Cell

/-- One entry of the diagnostic log: the pair (severity, code) (`60_exceptions.md` R378, R381). -/
structure LogEntry where
  sev : Severity
  event : Event
deriving DecidableEq, Repr

/-- The result a command returned (`10_state.md` R38, `30_encoding.md` R92). -/
inductive Result where
  /-- No result: `LEX.INIT`, or no command yet. -/
  | none
  /-- `LEX.FEED`: the count of bytes accepted (`40_lexer_core.md` R133). -/
  | count (k : Nat)
  /-- `LEX.PARSE`: `(tag, n, cap)` (`40_lexer_core.md` R151). -/
  | parse (tag : PacketType) (n : Nat) (cap : Bool)
  /-- `CHK.XOR8`, `CHK.CS8`: `(x, ok)`, 8 bits (`43_checksum_unit.md` R302, R303). -/
  | chk8 (x : BitVec 8) (ok : Bool)
  /-- `CHK.FLETCH8`: `(a, b, ok)` (`43_checksum_unit.md` R304). -/
  | chkPair (a b : BitVec 8) (ok : Bool)
  /-- `CHK.SUM32`, `CHK.XOR32`: `(x, ok)`, 32 bits (`43_checksum_unit.md` R305, R306). -/
  | chk32 (x : BitVec 32) (ok : Bool)
  /-- `CHK.CRC24Q`: `(c, ok)`, 24 bits (`43_checksum_unit.md` R307). -/
  | chk24 (c : BitVec 24) (ok : Bool)
  /-- Every BFX command: `(value, ok)`, the value extended to 64 bits (`44_bit_extractor.md` R332, R333, R354). -/
  | field (v : BitVec 64) (ok : Bool)
  /-- The status `ILLEGAL` of a command code outside the map (`30_encoding.md` R93). -/
  | illegal
deriving DecidableEq, Repr

/-- Where the next step finds what it executes (log entry 1): a command of the host, or the next iteration of a
`LEX.PARSE` under way at the position (`state`, `rp`) (`00_scope.md` R13, `10_state.md` R26). -/
inductive Source where
  | host | stream
deriving DecidableEq, Repr

/-- The state of one lexer instance (`10_state.md` R20 to R33, R36, R37, R39) and the model's own fields `log`,
`result`, `port`, `source`. -/
structure State where
  /-- The hardwired registers and parameters (`10_state.md` R36, R37); no command writes them. -/
  cfg : Config
  /-- Register `state` (`10_state.md` R21). -/
  state : LexState
  /-- The input buffer (`10_state.md` R22). -/
  inbuf : Memory
  /-- How many bytes of the input buffer are valid (`10_state.md` R23). -/
  inlen : Nat
  /-- The read pointer (`10_state.md` R24). -/
  rp : Nat
  /-- The output buffer (`10_state.md` R27). -/
  outbuf : Memory
  /-- The length of the packet in the output buffer (`10_state.md` R27). -/
  outlen : Nat
  /-- The packet type of the output slot (`10_state.md` R27, R34). -/
  type : PacketType
  /-- The pending length, in bytes (`10_state.md` R29). -/
  pending : Nat
  /-- The byte counter (`10_state.md` R30). -/
  counter : BitVec 64
  /-- The chunk remainder (`10_state.md` R31). -/
  chunkRem : Nat
  /-- The JSON nesting depth (`10_state.md` R32). -/
  jsonDepth : Nat
  /-- The stash buffer, only if `CFG.STASH_EN` (`10_state.md` R33). -/
  stash : Memory
  /-- The length of the stash, only if `CFG.STASH_EN` (`10_state.md` R33). -/
  stashlen : Nat
  /-- The RTCM2 sub-recognizer's private state, only if `CFG.RTCM2_EN` (`10_state.md` R39). -/
  rtcm2 : Nat
  /-- MODEL's own: the diagnostic output so far, oldest first (`60_exceptions.md` R381). -/
  log : List LogEntry
  /-- MODEL's own: the result of the last command (`10_state.md` R38). -/
  result : Result
  /-- MODEL's own: the commands the host has still to issue, each as bytes (log entry 2). -/
  port : List (List Byte)
  /-- MODEL's own: what the next step executes (log entry 1). -/
  source : Source
deriving DecidableEq, Repr

/-- The reasons the machine stops with a fault. -/
inductive Fault where
  /-- Raised by `LEX.PARSE` when `3 * (inlen - rp)` iterations have not ended it (log entry 17). Never raised
  where the stash and the open chains are off and `rp <= inlen`, which `10_state.md` R25 says of every state: that is
  the bound of `40_lexer_core.md` R146 and `70_reset_and_hazards.md` R422. With an open chain on it is raised only if the
  chain's rules, a parameter, break R146 (log entry 6). With the stash on the bound is wider by the parameter's own bound,
  and it is raised only if the parameter breaks that (log entry 8). Safe: the model stops. -/
  | parseBound
deriving DecidableEq, Repr

/-- The reasons a step has no meaning. -/
inductive Refusal where
  /-- Raised by an arm of `exec` whose instruction has no meaning yet. Safe: the model stops. -/
  | notModelled (mnemonic : String)
  /-- Raised by an iteration asked for when no unconsumed byte is buffered: `Iterate` is "defined when `rp < inlen`"
  (`40_lexer_core.md` R136). Safe: the model stops where the spec gives no effect. -/
  | noByteToConsume
  /-- Raised by a step whose command has a legal code and operand bytes that do not follow the model's own layout
  (log entry 2); no command of the spec has such an operand. Safe: the model stops. -/
  | malformedOperands
deriving DecidableEq, Repr

/-- The machine right after reset: `10_state.md` R42 (`LEX.INIT`, which power-on performs), with the baseline
configuration; the model's own fields as the log entries 1 to 4 and 7 say. -/
def State.reset : State where
  cfg := Config.baseline
  state := .groundState
  inbuf := []
  inlen := 0
  rp := 0
  outbuf := [(0, 0x00)]
  outlen := 0
  type := .none
  pending := 0
  counter := 0
  chunkRem := 0
  jsonDepth := 0
  stash := []
  stashlen := 0
  rtcm2 := 0
  log := []
  result := .none
  port := []
  source := .host

/-- The outcome of a step of this machine. -/
abbrev Outcome := Host.Outcome State Fault Refusal

end Sys2Proof.Machine
end

