-- ==== Sys2Proof/Machine/Ops.lean ====
section
/-! DEFINITION. The named operations over the buffers and the registers, and the raising of an error event, which is
what stands in PFL for taking an exception (`60_exceptions.md`, preamble). There is no return operation: after an event
the automaton, or the host, just goes on (`60_exceptions.md` R382). -/

namespace Sys2Proof.Machine

/-! ## Byte spaces -/

/-- The byte listed at an address. -/
def Memory.byteAt? : Memory → Nat → Option Byte
  | [], _ => none
  | (a, b) :: m, i => if a = i then some b else Memory.byteAt? m i

/-- `m` with the byte at one address written, the addresses still strictly rising. -/
def Memory.put : Memory → Nat → Byte → Memory
  | [], i, v => [(i, v)]
  | (a, b) :: m, i, v =>
    if i < a then (i, v) :: (a, b) :: m
    else if i = a then (i, v) :: m
    else (a, b) :: Memory.put m i v

/-- `MemWrite(buf, i, seq)` (`20_memory.md` R63). -/
def Memory.writeBytes : Memory → Nat → List Byte → Memory
  | m, _, [] => m
  | m, i, b :: bs => Memory.writeBytes (m.put i b) (i + 1) bs

/-- The bytes of `m` at addresses `lo` to `hi - 1`, moved down by `lo`; every other byte is unspecified
(`20_memory.md` R72, R78). -/
def Memory.window (m : Memory) (lo hi : Nat) : Memory :=
  (m.filter (fun c => decide (lo ≤ c.1) && decide (c.1 < hi))).map (fun c => (c.1 - lo, c.2))

/-- The canonical form: addresses strictly rising. An unlisted byte has no value, so no entry can equal what an
unlisted address reads as. -/
def Memory.wf (m : Memory) : Bool := decide (m.Pairwise (fun a b => a.1 < b.1))

/-- A read of one byte of a space whose valid content is `[0, limit)`; outside it the byte is a free value
(`20_memory.md` R78). -/
def readByte (sp : Space) (m : Memory) (limit i : Nat) : Byte :=
  if i < limit then (m.byteAt? i).getD (Config.unspecifiedByte sp i) else Config.unspecifiedByte sp i

/-- `inbuf[i]`; valid content `inbuf[0..inlen)` (`20_memory.md` R60). -/
def State.inByte (s : State) (i : Nat) : Byte := readByte .inBuf s.inbuf s.inlen i

/-- `outbuf[i]`; valid content `outbuf[0..outlen]` (`20_memory.md` R60). -/
def State.outByte (s : State) (i : Nat) : Byte := readByte .outBuf s.outbuf (s.outlen + 1) i

/-- `MemRead(inbuf, i, n)` (`20_memory.md` R62). -/
def State.inRange (s : State) (i n : Nat) : List Byte := (List.range n).map (fun k => s.inByte (i + k))

/-- `MemRead(outbuf, i, n)` (`20_memory.md` R62). -/
def State.outRange (s : State) (i n : Nat) : List Byte := (List.range n).map (fun k => s.outByte (i + k))

/-- The candidate `inbuf[0..rp)` (`00_scope.md` R19). -/
def State.candidate (s : State) : List Byte := s.inRange 0 s.rp

/-! ## Register updates -/

/-- `SetIdle` (`40_lexer_core.md` R132). -/
def State.setIdle (s : State) : State := { s with pending := 0, jsonDepth := 0 }

/-- The consumption of one byte that begins an iteration (`40_lexer_core.md` R136). -/
def State.consume (s : State) : State := { s with rp := s.rp + 1, counter := s.counter + 1 }

/-- The un-consumption of a pushback (`40_lexer_core.md` R138). -/
def State.rewind (s : State) : State := { s with rp := s.rp - 1, counter := s.counter - 1 }

/-- `state <- q` (`40_lexer_core.md` R137). -/
def State.goto (s : State) (q : LexState) : State := { s with state := q }

/-- `Shift(n)` (`20_memory.md` R72). -/
def State.shift (s : State) (n : Nat) : State :=
  { s with inbuf := s.inbuf.window n s.inlen, inlen := s.inlen - n, rp := 0 }

/-- The discard of the whole input buffer: `inlen <- 0; rp <- 0` (`40_lexer_core.md` R135, R141). -/
def State.clearInput (s : State) : State := { s with inbuf := [], inlen := 0, rp := 0 }

/-- The appending of bytes at the tail of the input buffer (`40_lexer_core.md` R133). -/
def State.append (s : State) (bs : List Byte) : State :=
  { s with inbuf := s.inbuf.writeBytes s.inlen bs, inlen := s.inlen + bs.length }

/-- The return of a command's result to the host. -/
def State.withResult (s : State) (r : Result) : State := { s with result := r }

/-- The end of a `LEX.PARSE` with the result `(tag, n, cap)` (`40_lexer_core.md` R151). -/
def State.finish (s : State) (tag : PacketType) (n : Nat) (cap : Bool) : State :=
  { s with result := .parse tag n cap, source := .host }

/-! ## Error events -/

/-- `Log(sev, code)` (`60_exceptions.md` R381), the severity as R378 gives it. -/
def State.logEvent (s : State) (e : Event) : State := { s with log := s.log ++ [⟨e.severity, e⟩] }

/-- The discard an event makes (`60_exceptions.md` R378). -/
def State.discard (s : State) : Discard → State
  | .candidate => s.shift s.rp
  | .wholeBuffer => s.clearInput

/-- Raising an error event: the one operation for all five (`60_exceptions.md` R371 to R375, R378, R380). It logs the
event, discards what the event discards, forces the ground state and the idle values, and, for the four events that
end `LEX.PARSE`, returns the event's result. -/
def State.raise (s : State) (e : Event) : State :=
  let t := ((s.logEvent e).discard e.discards).setIdle.goto .groundState
  match e.ends with
  | none => t
  | some (tag, cap) => t.finish tag 0 cap

/-! ## Actions and decisions -/

/-- `PushToGround()` (`40_lexer_core.md` R139): with an abandoned candidate it is the event `E_FRAMING`
(`60_exceptions.md` R371); with none it is a silent hand-over. -/
def State.pushToGround (s : State) : State :=
  if 0 < s.rp then s.raise .framing else s.setIdle

/-- Action `Push(q)` (`40_lexer_core.md` R138). -/
def State.pushback (s : State) (q : LexState) : State :=
  let t := s.rewind.goto q
  if q = .groundState then t.pushToGround else t

/-- Action `Drop(q)` (`40_lexer_core.md` R140). -/
def State.drop (s : State) (q : LexState) : State := (s.goto q).shift 1

/-- `AcceptPacket(T, alen)` (`40_lexer_core.md` R143). The bytes of the output buffer above the new NUL are stale and
so unspecified (`20_memory.md` R71, R78). -/
def State.acceptPacket (s : State) (ty : PacketType) (alen : Nat) : State :=
  let t := { s with
    outbuf := (s.outbuf.writeBytes 0 (s.inRange 0 alen ++ [0x00])).window 0 (alen + 1)
    outlen := alen
    type := ty }
  (t.shift t.rp).setIdle.finish ty alen false

/-- What the stash's rules see of an instance (log entry 8). -/
def State.stashView (s : State) : StashView where
  state := s.state
  read := s.candidate
  unread := s.inRange s.rp (s.inlen - s.rp)
  pending := s.pending
  jsonDepth := s.jsonDepth
  stash := (List.range s.stashlen).map (readByte .stash s.stash s.stashlen)

/-- What the stash's rules write, the input buffer no further than its capacity (`10_state.md` R25). The output slot
(R28), `counter` (R30), the log and the result are not theirs to write (log entry 8). DESIGN CHOICE: the stash has no
capacity of its own. The spec leaves its capacity open (`91_not_in_source.md` N8), and the model keeps every byte the rules
put into it; how many that are is the parameter's (log entry 8). -/
def State.withStashView (s : State) (v : StashView) : State :=
  let bytes := (v.read ++ v.unread).take s.cfg.inCap
  { s with
    state := v.state
    inbuf := Memory.writeBytes [] 0 bytes
    inlen := bytes.length
    rp := min v.read.length bytes.length
    pending := v.pending
    jsonDepth := v.jsonDepth
    stash := Memory.writeBytes [] 0 v.stash
    stashlen := v.stash.length }

/-- The stash's part in an iteration from `s` that leaves `t` without it: none with `CFG.STASH_EN = 0`, the open
parameter otherwise (`10_state.md` R33). -/
def State.applyStash (s t : State) : State :=
  if s.cfg.stashEn then t.withStashView (Config.stashRules s.stashView t.stashView) else t

/-- `Exhausted()` (`40_lexer_core.md` R135): the event `E_FULL` (`60_exceptions.md` R374) when the buffer is full,
the fragment result otherwise. -/
def State.exhausted (s : State) : State :=
  if s.inlen = s.cfg.inCap then s.raise .full else s.finish .none 0 false

/-- `LEX.INIT` (`40_lexer_core.md` R131, `10_state.md` R42). The bytes of both buffers other than `outbuf[0]` are
unspecified after it (`10_state.md` R42). -/
def State.init (s : State) : State :=
  { s with
    state := .groundState, inbuf := [], inlen := 0, rp := 0
    outbuf := [(0, 0x00)], outlen := 0, type := .none
    pending := 0, counter := 0, jsonDepth := 0, chunkRem := 0
    stash := if s.cfg.stashEn then [] else s.stash
    stashlen := if s.cfg.stashEn then 0 else s.stashlen
    rtcm2 := if s.cfg.chainEn.getLsbD 17 then Config.rtcm2Reset else s.rtcm2
    result := .none }

end Sys2Proof.Machine
end

