-- ==== Sys2Proof/Syntax.lean ====
section
/-! DEFINITION. The instructions: one constructor per row of `spec/opcode_table.json`, in the table's order. -/

namespace Sys2Proof

/-- The operand `src` (`30_encoding.md` R91): an immediate sequence `IMM(...)`, or the range `OUT[off, n]` of the
output buffer. -/
inductive Src where
  | imm (bytes : List Byte)
  | out (off n : Nat)
deriving DecidableEq, Repr

/-- One constructor per row of the opcode table: the commands (`30_encoding.md` R92), the ground bytes (R95), the
talker bytes (R96) and one row per automaton state (`10_state.md` R35), whose operand is the consumed byte. -/
inductive Instr where
  -- format CMD: commands
  | lexInit
  | lexFeed (bytes : List Byte)
  | lexParse
  | chkXor8 (src : Src)
  | chkCs8 (src : Src)
  | chkFletch8 (src : Src)
  | chkSum32 (src : Src)
  | chkXor32 (src : Src)
  | chkCrc24q (src : Src)
  | bfxUbits (src : Src) (start width : Nat) (le : Bool)
  | bfxSbits (src : Src) (start width : Nat) (le : Bool)
  | bfxGetbeu16 (src : Src) (off : Nat)
  | bfxGetbeu32 (src : Src) (off : Nat)
  | bfxGetbeu64 (src : Src) (off : Nat)
  | bfxGetbes16 (src : Src) (off : Nat)
  | bfxGetbes32 (src : Src) (off : Nat)
  | bfxGetbes64 (src : Src) (off : Nat)
  | bfxGetbef32 (src : Src) (off : Nat)
  | bfxGetbed64 (src : Src) (off : Nat)
  | bfxGetleu16 (src : Src) (off : Nat)
  | bfxGetleu32 (src : Src) (off : Nat)
  | bfxGetleu64 (src : Src) (off : Nat)
  | bfxGetles16 (src : Src) (off : Nat)
  | bfxGetles32 (src : Src) (off : Nat)
  | bfxGetles64 (src : Src) (off : Nat)
  | bfxGetlef32 (src : Src) (off : Nat)
  | bfxGetled64 (src : Src) (off : Nat)
  -- format GB: ground bytes
  | gbComment
  | gbNmea
  | gbAis
  | gbJson
  | gbUbx
  | gbRtcm3
  | gbCasic
  | gbAllystar
  | gbSuperstar2
  | gbNavcom
  | gbDle
  | gbZodiac
  | gbSirf
  | gbGreis
  | gbItalk
  | gbGeostar
  | gbAt
  | gbOther (c : Byte)
  -- format TK: talker bytes
  | tkG
  | tkP
  | tkA
  | tkB
  | tkH
  | tkI
  | tkQ
  | tkS
  | tkT
  | tkW
  | tkY
  | tkOther (c : Byte)
  -- format ST: automaton states
  | stGroundState (c : Byte)
  | stCommentBody (c : Byte)
  | stCommentRecognized (c : Byte)
  | stNmeaDollar (c : Byte)
  | stNmeaLeadG (c : Byte)
  | stNmeaLeadA (c : Byte)
  | stNmeaLeadB (c : Byte)
  | stNmeaLeadH (c : Byte)
  | stNmeaLeadI (c : Byte)
  | stNmeaLeadQ (c : Byte)
  | stNmeaLeadS (c : Byte)
  | stNmeaLeadT (c : Byte)
  | stNmeaLeadW (c : Byte)
  | stNmeaLeadY (c : Byte)
  | stNmeaVendorLead (c : Byte)
  | stNmeaPashrA (c : Byte)
  | stNmeaPashrS (c : Byte)
  | stNmeaPashrH (c : Byte)
  | stNmeaBinaryBody (c : Byte)
  | stNmeaBinaryCr (c : Byte)
  | stNmeaLeaderEnd (c : Byte)
  | stNmeaCr (c : Byte)
  | stNmeaRecognized (c : Byte)
  | stNmeaBang (c : Byte)
  | stAisLead1 (c : Byte)
  | stJsonBody (c : Byte)
  | stJsonString (c : Byte)
  | stJsonEscape (c : Byte)
  | stJsonValue (c : Byte)
  | stJsonRecognized (c : Byte)
  | stUbxLeader1 (c : Byte)
  | stUbxLeader2 (c : Byte)
  | stUbxClassId (c : Byte)
  | stUbxMessageId (c : Byte)
  | stUbxLength1 (c : Byte)
  | stUbxLength2 (c : Byte)
  | stUbxPayload (c : Byte)
  | stUbxChecksumA (c : Byte)
  | stUbxRecognized (c : Byte)
  | stAllyLeader1 (c : Byte)
  | stAllyLeader2 (c : Byte)
  | stAllyClassId (c : Byte)
  | stAllyMessageId (c : Byte)
  | stAllyLength1 (c : Byte)
  | stAllyLength2 (c : Byte)
  | stAllyPayload (c : Byte)
  | stAllyChecksumA (c : Byte)
  | stAllyRecognized (c : Byte)
  | stCasicLeader1 (c : Byte)
  | stCasicLeader2 (c : Byte)
  | stCasicLength1 (c : Byte)
  | stCasicLength2 (c : Byte)
  | stCasicClassId (c : Byte)
  | stCasicMessageId (c : Byte)
  | stCasicPayload (c : Byte)
  | stCasicChecksum1 (c : Byte)
  | stCasicChecksum2 (c : Byte)
  | stCasicChecksum3 (c : Byte)
  | stCasicRecognized (c : Byte)
  | stGeostarLeader1 (c : Byte)
  | stGeostarLeader2 (c : Byte)
  | stGeostarLeader3 (c : Byte)
  | stGeostarLeader4 (c : Byte)
  | stGeostarMessageId1 (c : Byte)
  | stGeostarMessageId2 (c : Byte)
  | stGeostarLength1 (c : Byte)
  | stGeostarLength2 (c : Byte)
  | stGeostarPayload (c : Byte)
  | stGeostarChecksum1 (c : Byte)
  | stGeostarChecksum2 (c : Byte)
  | stGeostarChecksum3 (c : Byte)
  | stGeostarRecognized (c : Byte)
  | stGreisId1 (c : Byte)
  | stGreisId2 (c : Byte)
  | stGreisLength1 (c : Byte)
  | stGreisLength2 (c : Byte)
  | stGreisLength3 (c : Byte)
  | stGreisPayload (c : Byte)
  | stGreisRecognized (c : Byte)
  | stRtcm3Leader1 (c : Byte)
  | stRtcm3Length1 (c : Byte)
  | stRtcm3Length2 (c : Byte)
  | stRtcm3Payload (c : Byte)
  | stRtcm3Crc1 (c : Byte)
  | stRtcm3Crc2 (c : Byte)
  | stRtcm3Recognized (c : Byte)
deriving DecidableEq, Repr

end Sys2Proof
end

