-- ==== Sys2Proof/Machine/Operands.lean ====
section
/-! DEFINITION. The operand forms of the commands (`30_encoding.md` R91), the assembly of multi-byte numbers and the hex
digits (`00_scope.md` R15, `30_encoding.md` R107, R108). -/

namespace Sys2Proof.Machine

/-- The byte sequence an operand `src` denotes, resolved when the command executes (`30_encoding.md` R91,
`70_reset_and_hazards.md` R417); none for a range `OUT[off, n]` with `off + n > outlen`. -/
def State.resolve (s : State) : Src → Option (List Byte)
  | .imm bs => some bs
  | .out off n => if off + n ≤ s.outlen then some (s.outRange off n) else none

/-- `le32` of four bytes (`00_scope.md` R15). -/
def le32 (b0 b1 b2 b3 : Byte) : BitVec 32 := b3 ++ b2 ++ b1 ++ b0

/-- The 32-bit little-endian words a sequence is cut into from its own start; none when its length is no multiple of 4
(`20_memory.md` R67). -/
def le32Words : List Byte → Option (List (BitVec 32))
  | [] => some []
  | b0 :: b1 :: b2 :: b3 :: rest => (le32Words rest).map (le32 b0 b1 b2 b3 :: ·)
  | _ => none

/-- The 16-bit little-endian length of UBX, ALLYSTAR, CASIC and GEOSTAR, from its low byte already in `pending` and
its high byte (`30_encoding.md` R107). -/
def le16Length (low : Nat) (high : Byte) : Nat := low + 256 * high.toNat

/-- `ishexu(c)`: the 16 uppercase hex digits (`30_encoding.md` R108). -/
def isHexUpper (c : Byte) : Bool :=
  (decide (0x30 ≤ c) && decide (c ≤ 0x39)) || (decide (0x41 ≤ c) && decide (c ≤ 0x46))

/-- `hexval(c)` of an uppercase hex digit (`30_encoding.md` R108). -/
def hexVal (c : Byte) : Nat := if c ≤ 0x39 then c.toNat - 0x30 else c.toNat - 0x41 + 10

/-- `hexchar(n)` for `n` at most 15 (`30_encoding.md` R108). -/
def hexChar (n : Nat) : Byte :=
  if n ≤ 9 then BitVec.ofNat 8 (0x30 + n) else BitVec.ofNat 8 (0x41 + n - 10)

/-- The two uppercase hex digits of a byte, high nibble first (`30_encoding.md` R108, `20_memory.md` R64). -/
def hexPair (x : Byte) : List Byte := [hexChar (x.toNat / 16), hexChar (x.toNat % 16)]

/-- A printable ASCII byte, 0x20 to 0x7E (`41_text_chains.md` R174, R184). -/
def isPrintable (c : Byte) : Bool := decide (0x20 ≤ c) && decide (c ≤ 0x7E)

/-- An uppercase letter, 0x41 to 0x5A (`41_text_chains.md` R179). -/
def isUpper (c : Byte) : Bool := decide (0x41 ≤ c) && decide (c ≤ 0x5A)

/-- A decimal digit, 0x30 to 0x39 (`41_text_chains.md` R194). -/
def isDigit (c : Byte) : Bool := decide (0x30 ≤ c) && decide (c ≤ 0x39)

/-- A lowercase letter, 0x61 to 0x7A (`41_text_chains.md` R197). -/
def isLower (c : Byte) : Bool := decide (0x61 ≤ c) && decide (c ≤ 0x7A)

/-- A byte of a GREIS message ID, 0x30 to 0x7E (`42_binary_chains.md` R277). -/
def isGreisId (c : Byte) : Bool := decide (0x30 ≤ c) && decide (c ≤ 0x7E)

/-- `BE(v, off, nb)` (`44_bit_extractor.md` R355). -/
def beValue (v : List Byte) (off nb : Nat) : Nat :=
  ((List.range nb).map (fun j => (v.getD (off + j) 0).toNat * 256 ^ (nb - 1 - j))).sum

/-- `LE(v, off, nb)` (`44_bit_extractor.md` R355). -/
def leValue (v : List Byte) (off nb : Nat) : Nat :=
  ((List.range nb).map (fun j => (v.getD (off + j) 0).toNat * 256 ^ j)).sum

/-- `S(u, w)`: the two's-complement reading of a `w`-bit number (`44_bit_extractor.md` R355). -/
def signedValue (u w : Nat) : Int := if 2 ^ (w - 1) ≤ u then (u : Int) - 2 ^ w else u

end Sys2Proof.Machine
end

