-- ==== Sys2Proof/Machine/Checksum.lean ====
section
/-! DEFINITION. The six algorithms of CHK (`43_checksum_unit.md` R302 to R307): pure functions of a byte sequence, used
by the CHK commands and by the validation passes (R309). -/

namespace Sys2Proof.Machine

/-- `XOR8` (`43_checksum_unit.md` R302). -/
def xor8 (v : List Byte) : Byte := v.foldl (fun x b => x ^^^ b) 0

/-- `rotl8` (`00_scope.md` R15). -/
def rotl8 (x : Byte) (k : Nat) : Byte := (x <<< k) ||| (x >>> (8 - k))

/-- The accumulator of `CS8` before the final rotation (`43_checksum_unit.md` R303). -/
def cs8Acc (v : List Byte) : Byte := v.foldl (fun r b => rotl8 r 2 ^^^ b) 0

/-- `CS8` (`43_checksum_unit.md` R303). -/
def cs8 (v : List Byte) : Byte := rotl8 (cs8Acc v) 2

/-- `FLETCH8`: the accumulators `(a, b)` (`43_checksum_unit.md` R304). -/
def fletch8 (v : List Byte) : Byte × Byte := v.foldl (fun p x => (p.1 + x, p.2 + (p.1 + x))) (0, 0)

/-- `SUM32`; none when the length is no multiple of 4 (`43_checksum_unit.md` R305). -/
def sum32 (v : List Byte) : Option (BitVec 32) := (le32Words v).map (fun ws => ws.foldl (fun s w => s + w) 0)

/-- `XOR32`; none when the length is no multiple of 4 (`43_checksum_unit.md` R306). -/
def xor32 (v : List Byte) : Option (BitVec 32) := (le32Words v).map (fun ws => ws.foldl (fun s w => s ^^^ w) 0)

/-- One bit of the CRC-24Q division, on the register with room for the bit shifted out (`43_checksum_unit.md` R307). -/
def crc24qBit (crc : BitVec 25) : BitVec 25 :=
  let t := crc <<< 1
  if t.getLsbD 24 then t ^^^ 0x1864CFB else t

/-- One byte of the CRC-24Q division (`43_checksum_unit.md` R307). -/
def crc24qByte (crc : BitVec 25) (b : Byte) : BitVec 25 :=
  let t := crc ^^^ (b.setWidth 25 <<< 16)
  crc24qBit (crc24qBit (crc24qBit (crc24qBit (crc24qBit (crc24qBit (crc24qBit (crc24qBit t)))))))

/-- `CRC24Q` (`43_checksum_unit.md` R307). -/
def crc24q (v : List Byte) : BitVec 24 := (v.foldl crc24qByte 0).setWidth 24

/-- The three bytes of a 24-bit value, most significant first (`20_memory.md` R64, RTCM3 CRC). -/
def be24 (k : BitVec 24) : List Byte :=
  [(k >>> 16).setWidth 8, (k >>> 8).setWidth 8, k.setWidth 8]

/-- The four bytes of a 32-bit value, least significant first (`20_memory.md` R64, CASIC checksum). -/
def le32Bytes (k : BitVec 32) : List Byte :=
  [k.setWidth 8, (k >>> 8).setWidth 8, (k >>> 16).setWidth 8, (k >>> 24).setWidth 8]

end Sys2Proof.Machine
end

