-- ==== Sys2Proof/Machine/Extract.lean ====
section
/-! DEFINITION. The bit-field extraction of BFX (`44_bit_extractor.md` R331 to R334, R355): pure functions of a byte
sequence. -/

namespace Sys2Proof.Machine

/-- `bit(v, k)` (`44_bit_extractor.md` R331). -/
def bitAt (v : List Byte) (k : Nat) : Nat := ((v.getD (k / 8) 0).toNat >>> (7 - k % 8)) &&& 1

/-- The field of `width` bits from bit `start`, the first bit most significant (`44_bit_extractor.md` R332). -/
def bitField (v : List Byte) (start width : Nat) : Nat :=
  (List.range width).foldl (fun u i => 2 * u + bitAt v (start + i)) 0

/-- `ByteReverse(u, nb)` (`44_bit_extractor.md` R332). -/
def byteReverse (u nb : Nat) : Nat :=
  ((List.range nb).map (fun j => ((u >>> (8 * (nb - 1 - j))) &&& 0xFF) <<< (8 * j))).sum

/-- `Fail(v, start, width, le)`, cases (a) to (d) (`44_bit_extractor.md` R334); case (e), a range beyond `outlen`, is
an operand that denotes no sequence (`State.resolve`). -/
def fieldFail (v : List Byte) (start width : Nat) (le : Bool) : Bool :=
  width == 0 || decide (56 < width) || decide (8 * v.length < start + width) || (le && width % 8 != 0)

/-- `UBITS` (`44_bit_extractor.md` R332); none on failure. -/
def ubits (v : List Byte) (start width : Nat) (le : Bool) : Option Nat :=
  if fieldFail v start width le then none
  else if le then some (byteReverse (bitField v start width) (width / 8))
  else some (bitField v start width)

/-- `SBITS` (`44_bit_extractor.md` R333); none on failure. -/
def sbits (v : List Byte) (start width : Nat) (le : Bool) : Option Int :=
  (ubits v start width le).map (fun u => signedValue u width)

/-- An accessor's failure: it needs the `nb` bytes from `off` (`44_bit_extractor.md` R334, R355). -/
def accessFail (v : List Byte) (off nb : Nat) : Bool := decide (v.length < off + nb)

/-- `GETBEU16/32/64` and `GETBEF32`, `GETBED64` (`44_bit_extractor.md` R336 to R338, R342, R343). -/
def getBeU (v : List Byte) (off nb : Nat) : Option Nat := if accessFail v off nb then none else some (beValue v off nb)

/-- `GETLEU16/32/64` and `GETLEF32`, `GETLED64` (`44_bit_extractor.md` R344 to R346, R350, R351). -/
def getLeU (v : List Byte) (off nb : Nat) : Option Nat := if accessFail v off nb then none else some (leValue v off nb)

/-- `GETBES16/32/64` (`44_bit_extractor.md` R339 to R341). -/
def getBeS (v : List Byte) (off nb : Nat) : Option Int := (getBeU v off nb).map (fun u => signedValue u (8 * nb))

/-- `GETLES16/32/64` (`44_bit_extractor.md` R347 to R349). -/
def getLeS (v : List Byte) (off nb : Nat) : Option Int := (getLeU v off nb).map (fun u => signedValue u (8 * nb))

end Sys2Proof.Machine
end

