-- ==== Sys2Proof/Machine/Flags.lean ====
section
/-! DEFINITION. PFL has no flag or condition-code register: what an ISA would put in flags is the status bit `ok` of a
command's result (`10_state.md` R38). This file computes the results and their status bits (`43_checksum_unit.md` R301,
`44_bit_extractor.md` R334): on failure every value field is 0 and `ok` is 0. -/

namespace Sys2Proof.Machine

/-- An 8-bit checksum result (`43_checksum_unit.md` R301 to R303). -/
def chk8Result : Option Byte → Result
  | some x => .chk8 x true
  | none => .chk8 0 false

/-- The two accumulators of `FLETCH8` (`43_checksum_unit.md` R301, R304). -/
def chkPairResult : Option (Byte × Byte) → Result
  | some p => .chkPair p.1 p.2 true
  | none => .chkPair 0 0 false

/-- A 32-bit checksum result (`43_checksum_unit.md` R301, R305, R306). -/
def chk32Result : Option (BitVec 32) → Result
  | some x => .chk32 x true
  | none => .chk32 0 false

/-- A 24-bit CRC result (`43_checksum_unit.md` R301, R307). -/
def chk24Result : Option (BitVec 24) → Result
  | some x => .chk24 x true
  | none => .chk24 0 false

/-- An unsigned field, zero-extended to 64 bits (`44_bit_extractor.md` R332, R334, R354(b)). A floating-point pattern
is the unsigned field of its width (R353). -/
def unsignedResult : Option Nat → Result
  | some u => .field (BitVec.ofNat 64 u) true
  | none => .field 0 false

/-- A signed field, sign-extended to 64 bits (`44_bit_extractor.md` R333, R334, R354(b)). -/
def signedResult : Option Int → Result
  | some u => .field (BitVec.ofInt 64 u) true
  | none => .field 0 false

end Sys2Proof.Machine
end

