-- ==== Sys2Proof/Machine/Bfx.lean ====
section
/-! DEFINITION. The BFX commands (`44_bit_extractor.md` R332 to R351). Each resolves its operand, extracts, and returns
`(value, ok)`; no other state changes. -/

namespace Sys2Proof.Machine

/-- `BFX.UBITS` (`44_bit_extractor.md` R332). -/
def execBfxUbits (src : Src) (start width : Nat) (le : Bool) (s : State) : Outcome :=
  .next (s.withResult (unsignedResult ((s.resolve src).bind (fun v => ubits v start width le))))

/-- `BFX.SBITS` (`44_bit_extractor.md` R333). -/
def execBfxSbits (src : Src) (start width : Nat) (le : Bool) (s : State) : Outcome :=
  .next (s.withResult (signedResult ((s.resolve src).bind (fun v => sbits v start width le))))

/-- `BFX.GETBEU16` (`44_bit_extractor.md` R336). -/
def execBfxGetbeu16 (src : Src) (off : Nat) (s : State) : Outcome :=
  .next (s.withResult (unsignedResult ((s.resolve src).bind (fun v => getBeU v off 2))))

/-- `BFX.GETBEU32` (`44_bit_extractor.md` R337). -/
def execBfxGetbeu32 (src : Src) (off : Nat) (s : State) : Outcome :=
  .next (s.withResult (unsignedResult ((s.resolve src).bind (fun v => getBeU v off 4))))

/-- `BFX.GETBEU64` (`44_bit_extractor.md` R338). -/
def execBfxGetbeu64 (src : Src) (off : Nat) (s : State) : Outcome :=
  .next (s.withResult (unsignedResult ((s.resolve src).bind (fun v => getBeU v off 8))))

/-- `BFX.GETBES16` (`44_bit_extractor.md` R339). -/
def execBfxGetbes16 (src : Src) (off : Nat) (s : State) : Outcome :=
  .next (s.withResult (signedResult ((s.resolve src).bind (fun v => getBeS v off 2))))

/-- `BFX.GETBES32` (`44_bit_extractor.md` R340). -/
def execBfxGetbes32 (src : Src) (off : Nat) (s : State) : Outcome :=
  .next (s.withResult (signedResult ((s.resolve src).bind (fun v => getBeS v off 4))))

/-- `BFX.GETBES64` (`44_bit_extractor.md` R341). -/
def execBfxGetbes64 (src : Src) (off : Nat) (s : State) : Outcome :=
  .next (s.withResult (signedResult ((s.resolve src).bind (fun v => getBeS v off 8))))

/-- `BFX.GETBEF32` (`44_bit_extractor.md` R342), an IEEE-754 single pattern (R353). -/
def execBfxGetbef32 (src : Src) (off : Nat) (s : State) : Outcome :=
  .next (s.withResult (unsignedResult ((s.resolve src).bind (fun v => getBeU v off 4))))

/-- `BFX.GETBED64` (`44_bit_extractor.md` R343), an IEEE-754 double pattern (R353). -/
def execBfxGetbed64 (src : Src) (off : Nat) (s : State) : Outcome :=
  .next (s.withResult (unsignedResult ((s.resolve src).bind (fun v => getBeU v off 8))))

/-- `BFX.GETLEU16` (`44_bit_extractor.md` R344). -/
def execBfxGetleu16 (src : Src) (off : Nat) (s : State) : Outcome :=
  .next (s.withResult (unsignedResult ((s.resolve src).bind (fun v => getLeU v off 2))))

/-- `BFX.GETLEU32` (`44_bit_extractor.md` R345). -/
def execBfxGetleu32 (src : Src) (off : Nat) (s : State) : Outcome :=
  .next (s.withResult (unsignedResult ((s.resolve src).bind (fun v => getLeU v off 4))))

/-- `BFX.GETLEU64` (`44_bit_extractor.md` R346). -/
def execBfxGetleu64 (src : Src) (off : Nat) (s : State) : Outcome :=
  .next (s.withResult (unsignedResult ((s.resolve src).bind (fun v => getLeU v off 8))))

/-- `BFX.GETLES16` (`44_bit_extractor.md` R347). -/
def execBfxGetles16 (src : Src) (off : Nat) (s : State) : Outcome :=
  .next (s.withResult (signedResult ((s.resolve src).bind (fun v => getLeS v off 2))))

/-- `BFX.GETLES32` (`44_bit_extractor.md` R348). -/
def execBfxGetles32 (src : Src) (off : Nat) (s : State) : Outcome :=
  .next (s.withResult (signedResult ((s.resolve src).bind (fun v => getLeS v off 4))))

/-- `BFX.GETLES64` (`44_bit_extractor.md` R349). -/
def execBfxGetles64 (src : Src) (off : Nat) (s : State) : Outcome :=
  .next (s.withResult (signedResult ((s.resolve src).bind (fun v => getLeS v off 8))))

/-- `BFX.GETLEF32` (`44_bit_extractor.md` R350), an IEEE-754 single pattern (R353). -/
def execBfxGetlef32 (src : Src) (off : Nat) (s : State) : Outcome :=
  .next (s.withResult (unsignedResult ((s.resolve src).bind (fun v => getLeU v off 4))))

/-- `BFX.GETLED64` (`44_bit_extractor.md` R351), an IEEE-754 double pattern (R353). -/
def execBfxGetled64 (src : Src) (off : Nat) (s : State) : Outcome :=
  .next (s.withResult (unsignedResult ((s.resolve src).bind (fun v => getLeU v off 8))))

end Sys2Proof.Machine
end

