-- ==== Sys2Proof/Machine/Chk.lean ====
section
/-! DEFINITION. The CHK commands (`43_checksum_unit.md` R301 to R307). Each resolves its operand, computes, and returns
its result; no other state changes. -/

namespace Sys2Proof.Machine

/-- `CHK.XOR8` (`43_checksum_unit.md` R302). -/
def execChkXor8 (src : Src) (s : State) : Outcome := .next (s.withResult (chk8Result ((s.resolve src).map xor8)))

/-- `CHK.CS8` (`43_checksum_unit.md` R303). -/
def execChkCs8 (src : Src) (s : State) : Outcome := .next (s.withResult (chk8Result ((s.resolve src).map cs8)))

/-- `CHK.FLETCH8` (`43_checksum_unit.md` R304). -/
def execChkFletch8 (src : Src) (s : State) : Outcome := .next (s.withResult (chkPairResult ((s.resolve src).map fletch8)))

/-- `CHK.SUM32` (`43_checksum_unit.md` R305). -/
def execChkSum32 (src : Src) (s : State) : Outcome := .next (s.withResult (chk32Result ((s.resolve src).bind sum32)))

/-- `CHK.XOR32` (`43_checksum_unit.md` R306). -/
def execChkXor32 (src : Src) (s : State) : Outcome := .next (s.withResult (chk32Result ((s.resolve src).bind xor32)))

/-- `CHK.CRC24Q` (`43_checksum_unit.md` R307). -/
def execChkCrc24q (src : Src) (s : State) : Outcome := .next (s.withResult (chk24Result ((s.resolve src).map crc24q)))

end Sys2Proof.Machine
end

