-- ==== Sys2Proof/Machine/Validate.lean ====
section
/-! DEFINITION. The validation passes (`40_lexer_core.md` R142), one per chain: functions of the candidate. The table of
`43_checksum_unit.md` R309 lists the algorithm, the span and the comparison of each. -/

namespace Sys2Proof.Machine

/-- The answer of a validation pass (`40_lexer_core.md` R142). -/
inductive Verdict where
  | accept (ty : PacketType) (alen : Nat)
  | bad
deriving DecidableEq, Repr

/-- A line terminator byte, 0x0D or 0x0A. -/
def isLineEnd (c : Byte) : Bool := c == 0x0D || c == 0x0A

/-- A text candidate's length without its trailing run of 0x0D and 0x0A bytes (`41_text_chains.md` R176, R187). -/
def strippedLength (cand : List Byte) : Nat := (cand.reverse.dropWhile isLineEnd).length

/-- Comment: always accepted (`41_text_chains.md` R176). -/
def validateComment (cand : List Byte) : Verdict := .accept .comment (strippedLength cand)

/-- NMEA and AIS (`41_text_chains.md` R187, R188). `sent` is the stripped sentence; the `*` looked for stands three bytes
before its end. -/
def validateNmea (cfg : Config) (cand : List Byte) : Verdict :=
  let alen := strippedLength cand
  let sent := cand.take alen
  let ty := if cand.head? = some 0x21 then PacketType.ais else PacketType.nmea
  if cfg.nmeaExempt.any (fun p => p.isPrefixOf sent) then .accept ty alen
  else if 4 ≤ alen ∧ sent[alen - 3]? = some 0x2A then
    if sent.drop (alen - 2) = hexPair (xor8 ((sent.take (alen - 3)).drop 1)) then .accept ty alen else .bad
  else .accept ty alen

/-- JSON: always accepted, whole (`41_text_chains.md` R198). -/
def validateJson (cand : List Byte) : Verdict := .accept .json cand.length

/-- The Fletcher pair over `cand[2 .. n-2)` against the last two bytes, `a` first (`42_binary_chains.md` R240, R250). -/
def fletchMatches (cand : List Byte) : Bool :=
  let p := fletch8 ((cand.take (cand.length - 2)).drop 2)
  cand.drop (cand.length - 2) == [p.1, p.2]

/-- UBX (`42_binary_chains.md` R240). -/
def validateUbx (cand : List Byte) : Verdict := if fletchMatches cand then .accept .ubx cand.length else .bad

/-- ALLYSTAR (`42_binary_chains.md` R250). -/
def validateAllystar (cand : List Byte) : Verdict := if fletchMatches cand then .accept .allystar cand.length else .bad

/-- CASIC: `SUM32(cand[2 .. n-4))` against the last four bytes, little-endian (`42_binary_chains.md` R262). -/
def validateCasic (cand : List Byte) : Verdict :=
  match sum32 ((cand.take (cand.length - 4)).drop 2) with
  | some k => if cand.drop (cand.length - 4) = le32Bytes k then .accept .casic cand.length else .bad
  | none => .bad

/-- GEOSTAR: `XOR32` over the whole candidate is zero (`42_binary_chains.md` R276). -/
def validateGeostar (cand : List Byte) : Verdict :=
  if xor32 cand = some 0 then .accept .geostar cand.length else .bad

/-- The GREIS message IDs that carry no checksum: `RE` and `ER` (`42_binary_chains.md` R284). -/
def greisExempt (cand : List Byte) : Bool := cand.take 2 == [0x52, 0x45] || cand.take 2 == [0x45, 0x52]

/-- GREIS: exempt, or `CS8` over the whole candidate is zero (`42_binary_chains.md` R284). -/
def validateGreis (cand : List Byte) : Verdict :=
  if greisExempt cand then .accept .greis cand.length
  else if cs8 cand = 0 then .accept .greis cand.length else .bad

/-- RTCM3: `CRC24Q(cand[0 .. n-3))` against the last three bytes, big-endian (`42_binary_chains.md` R292). -/
def validateRtcm3 (cand : List Byte) : Verdict :=
  if cand.drop (cand.length - 3) = be24 (crc24q (cand.take (cand.length - 3))) then .accept .rtcm3 cand.length
  else .bad

/-- A recognition in an open chain: the parameter's verdict, the type one of the chain's (`RTCM2` for the RTCM2 branch,
`42_binary_chains.md` R295) and the accept span from 1 byte to the whole candidate (`40_lexer_core.md` R142). -/
def validateBranch (ch : OpenChain) (k : BranchState) (cand : List Byte) : Verdict :=
  match Config.branchValidate ch k cand with
  | some (j, n) => .accept (ch.packetType j) (min (max 1 n) cand.length)
  | none => .bad

/-- `Validate(S, cand)` (`40_lexer_core.md` R142). -/
def validate (cfg : Config) (r : Recog) (cand : List Byte) : Verdict :=
  match r with
  | .comment => validateComment cand
  | .nmea => validateNmea cfg cand
  | .json => validateJson cand
  | .ubx => validateUbx cand
  | .allystar => validateAllystar cand
  | .casic => validateCasic cand
  | .geostar => validateGeostar cand
  | .greis => validateGreis cand
  | .rtcm3 => validateRtcm3 cand
  | .branch ch k => validateBranch ch k cand

end Sys2Proof.Machine
end

