-- ==== Sys2Proof/Machine/Iterate.lean ====
section
/-! DEFINITION. One iteration of the automaton (`40_lexer_core.md` R136 to R145): the consumption of a byte, the action
a transition rule gives, and its performance. -/

namespace Sys2Proof.Machine

/-- The actions of `00_scope.md` R17. -/
inductive Act where
  /-- `Go(S)` (`40_lexer_core.md` R137). -/
  | go (q : LexState)
  /-- `Push(S)` (`40_lexer_core.md` R138). -/
  | push (q : LexState)
  /-- `Drop(S)` (`40_lexer_core.md` R140). -/
  | drop (q : LexState)
  /-- `Cap` (`40_lexer_core.md` R141). -/
  | cap
  /-- `Rec(S)` (`40_lexer_core.md` R142). -/
  | recog (r : Recog)
deriving DecidableEq, Repr

/-- What the transition function yields (`40_lexer_core.md` R150): the action and the new values of the registers that
the chain rules may write besides. -/
structure Trans where
  act : Act
  pending : Nat
  jsonDepth : Nat
  rtcm2 : Nat
deriving DecidableEq, Repr

/-- An action that writes no register of its own. -/
def State.plain (s : State) (a : Act) : Trans := ⟨a, s.pending, s.jsonDepth, s.rtcm2⟩

/-- An action that also loads `pending`. -/
def State.load (s : State) (p : Nat) (a : Act) : Trans := ⟨a, p, s.jsonDepth, s.rtcm2⟩

/-- An action that also writes `json_depth`. -/
def State.depth (s : State) (d : Nat) (a : Act) : Trans := ⟨a, s.pending, d, s.rtcm2⟩

/-- Go on if the test holds, otherwise `Push(GROUND_STATE)`: the shape of a leader state
(`42_binary_chains.md` R230(a)). -/
def State.expect (s : State) (ok : Bool) (q : LexState) : Trans :=
  if ok then s.plain (.go q) else s.plain (.push .groundState)

/-- `Countdown(c, PAY, TRAILER)` (`40_lexer_core.md` R149). -/
def State.countdown (s : State) (pay trailer : LexState) : Trans :=
  if s.pending = 0 then s.plain (.go trailer) else s.load (s.pending - 1) (.go pay)

/-- The capacity test of a length state (`40_lexer_core.md` R152): the frame's `ovh` bytes besides the payload and
the payload's `len` bytes. -/
def State.overLength (s : State) (ovh len : Nat) : Bool := decide (s.cfg.maxPacketLength < len + ovh)

/-- The end of a validation pass (`40_lexer_core.md` R142): accept, the event `E_OVERSIZE` (R144) or the event
`E_BADCHECK` (R145). -/
def State.conclude (s : State) : Verdict → State
  | .accept ty alen =>
    if s.cfg.maxPacketLength < alen ∨ s.cfg.outCap - 1 < alen then s.raise .oversize else s.acceptPacket ty alen
  | .bad => s.raise .badCheck

/-- Action `Rec(S)` (`40_lexer_core.md` R142). -/
def State.recognise (s : State) (r : Recog) : State :=
  let t := s.goto r.state
  t.conclude (validate t.cfg r t.candidate)

/-- The writing of the registers a transition loads. -/
def State.loadTrans (s : State) (t : Trans) : State :=
  { s with pending := t.pending, jsonDepth := t.jsonDepth, rtcm2 := t.rtcm2 }

/-- `perform act` (`40_lexer_core.md` R136). -/
def perform (s : State) (t : Trans) : State :=
  match t.act with
  | .go q => (s.loadTrans t).goto q
  | .push q => (s.loadTrans t).pushback q
  | .drop q => (s.loadTrans t).drop q
  | .cap => (s.loadTrans t).raise .length
  | .recog r => (s.loadTrans t).recognise r

/-- `Iterate()` with a given transition rule (`40_lexer_core.md` R136), "defined when `rp < inlen`", and the stash's part in
it (`10_state.md` R33). The rule is a function of the state after the byte is consumed. -/
def iteration (rule : State → Trans) (s : State) : Outcome :=
  if s.rp < s.inlen then .next (s.applyStash (perform s.consume (rule s.consume))) else .refused .noByteToConsume

end Sys2Proof.Machine
end

