-- ==== Sys2Proof/Machine/Allystar.lean ====
section
/-! DEFINITION. The ALLYSTAR chain (`42_binary_chains.md` R241 to R249). -/

namespace Sys2Proof.Machine

/-- `ALLY_LEADER_1` (`42_binary_chains.md` R241). -/
def nextAllyLeader1 (c : Byte) (s : State) : Trans := s.expect (c == 0xD9) .allyLeader2

/-- `ALLY_LEADER_2` (`42_binary_chains.md` R242): any byte. -/
def nextAllyLeader2 (_c : Byte) (s : State) : Trans := s.plain (.go .allyClassId)

/-- `ALLY_CLASS_ID` (`42_binary_chains.md` R243): any byte. -/
def nextAllyClassId (_c : Byte) (s : State) : Trans := s.plain (.go .allyMessageId)

/-- `ALLY_MESSAGE_ID`: the low length byte (`42_binary_chains.md` R244). -/
def nextAllyMessageId (c : Byte) (s : State) : Trans := s.load c.toNat (.go .allyLength1)

/-- `ALLY_LENGTH_1`: the high length byte and the capacity test (`42_binary_chains.md` R245). -/
def nextAllyLength1 (c : Byte) (s : State) : Trans :=
  let len := le16Length s.pending c
  s.load len (if s.overLength 8 len then .cap else .go .allyLength2)

/-- `ALLY_LENGTH_2` (`42_binary_chains.md` R246). -/
def nextAllyLength2 (_c : Byte) (s : State) : Trans := s.countdown .allyPayload .allyChecksumA

/-- `ALLY_PAYLOAD` (`42_binary_chains.md` R247). -/
def nextAllyPayload (_c : Byte) (s : State) : Trans := s.countdown .allyPayload .allyChecksumA

/-- `ALLY_CHECKSUM_A`: the last trailer byte (`42_binary_chains.md` R248). -/
def nextAllyChecksumA (_c : Byte) (s : State) : Trans := s.plain (.recog .allystar)

/-- `ALLY_RECOGNIZED` (`42_binary_chains.md` R249). -/
def nextAllyRecognized (c : Byte) (s : State) : Trans := s.expect (c == 0xF1) .allyLeader1

/-! ## The meanings -/

/-- `ST.ALLY_LEADER_1` (`42_binary_chains.md` R241). -/
def execStAllyLeader1 (c : Byte) (s : State) : Outcome := iteration (nextAllyLeader1 c) s

/-- `ST.ALLY_LEADER_2` (`42_binary_chains.md` R242). -/
def execStAllyLeader2 (c : Byte) (s : State) : Outcome := iteration (nextAllyLeader2 c) s

/-- `ST.ALLY_CLASS_ID` (`42_binary_chains.md` R243). -/
def execStAllyClassId (c : Byte) (s : State) : Outcome := iteration (nextAllyClassId c) s

/-- `ST.ALLY_MESSAGE_ID` (`42_binary_chains.md` R244). -/
def execStAllyMessageId (c : Byte) (s : State) : Outcome := iteration (nextAllyMessageId c) s

/-- `ST.ALLY_LENGTH_1` (`42_binary_chains.md` R245). -/
def execStAllyLength1 (c : Byte) (s : State) : Outcome := iteration (nextAllyLength1 c) s

/-- `ST.ALLY_LENGTH_2` (`42_binary_chains.md` R246). -/
def execStAllyLength2 (c : Byte) (s : State) : Outcome := iteration (nextAllyLength2 c) s

/-- `ST.ALLY_PAYLOAD` (`42_binary_chains.md` R247). -/
def execStAllyPayload (c : Byte) (s : State) : Outcome := iteration (nextAllyPayload c) s

/-- `ST.ALLY_CHECKSUM_A` (`42_binary_chains.md` R248). -/
def execStAllyChecksumA (c : Byte) (s : State) : Outcome := iteration (nextAllyChecksumA c) s

/-- `ST.ALLY_RECOGNIZED` (`42_binary_chains.md` R249). -/
def execStAllyRecognized (c : Byte) (s : State) : Outcome := iteration (nextAllyRecognized c) s

end Sys2Proof.Machine
end

