-- ==== Sys2Proof/Machine/Branch.lean ====
section
/-! DEFINITION. The states of the open chains, the RTCM2 branch among them: their rules are parameters
(`42_binary_chains.md` R294, R295; log entries 6 and 7). The opcode table has no row for such a state, so its iteration is
no instruction: `step` runs it by the state's name, as it runs the rows (`40_lexer_core.md` R150). -/

namespace Sys2Proof.Machine

/-- An action of a chain's own states as an action of the automaton. -/
def branchAct (ch : OpenChain) : BranchAct → Act
  | .go k => .go (.branch ch k)
  | .push none => .push .groundState
  | .push (some k) => .push (.branch ch k)
  | .drop none => .drop .groundState
  | .drop (some k) => .drop (.branch ch k)
  | .cap => .cap
  | .recog k => .recog (.branch ch k)

/-- The transition rule of a state of an open chain: the parameter, given what `40_lexer_core.md` R136 lets a rule read. It
writes the two counts and no other register (R150). -/
def nextBranch (ch : OpenChain) (k : BranchState) (c : Byte) (s : State) : Trans :=
  let m := Config.branchRules ch k ⟨c, s.candidate, s.pending, s.jsonDepth, s.cfg⟩
  ⟨branchAct ch m.act, m.pending, m.jsonDepth, s.rtcm2⟩

/-- The iteration of a byte in a state of an open chain (`40_lexer_core.md` R136). -/
def iterateBranch (ch : OpenChain) (k : BranchState) (c : Byte) (s : State) : Outcome := iteration (nextBranch ch k c) s

end Sys2Proof.Machine
end

