-- ==== Sys2Proof/Machine/Casic.lean ====
section
/-! DEFINITION. The CASIC chain (`42_binary_chains.md` R251 to R261). -/

namespace Sys2Proof.Machine

/-- `CASIC_LEADER_1` (`42_binary_chains.md` R251). -/
def nextCasicLeader1 (c : Byte) (s : State) : Trans := s.expect (c == 0xCE) .casicLeader2

/-- `CASIC_LEADER_2`: the low length byte (`42_binary_chains.md` R252). -/
def nextCasicLeader2 (c : Byte) (s : State) : Trans := s.load c.toNat (.go .casicLength1)

/-- `CASIC_LENGTH_1`: the high length byte, the capacity test, then the multiple-of-4 test
(`42_binary_chains.md` R253, `60_exceptions.md` R379(a)). -/
def nextCasicLength1 (c : Byte) (s : State) : Trans :=
  let len := le16Length s.pending c
  if s.overLength 10 len then s.plain .cap
  else if len % 4 ≠ 0 then s.plain (.push .groundState)
  else s.load len (.go .casicLength2)

/-- `CASIC_LENGTH_2` (`42_binary_chains.md` R254): any byte. -/
def nextCasicLength2 (_c : Byte) (s : State) : Trans := s.plain (.go .casicClassId)

/-- `CASIC_CLASS_ID` (`42_binary_chains.md` R255): any byte. -/
def nextCasicClassId (_c : Byte) (s : State) : Trans := s.plain (.go .casicMessageId)

/-- `CASIC_MESSAGE_ID` (`42_binary_chains.md` R256). -/
def nextCasicMessageId (_c : Byte) (s : State) : Trans := s.countdown .casicPayload .casicChecksum1

/-- `CASIC_PAYLOAD` (`42_binary_chains.md` R257). -/
def nextCasicPayload (_c : Byte) (s : State) : Trans := s.countdown .casicPayload .casicChecksum1

/-- `CASIC_CHECKSUM_1` (`42_binary_chains.md` R258): any byte. -/
def nextCasicChecksum1 (_c : Byte) (s : State) : Trans := s.plain (.go .casicChecksum2)

/-- `CASIC_CHECKSUM_2` (`42_binary_chains.md` R259): any byte. -/
def nextCasicChecksum2 (_c : Byte) (s : State) : Trans := s.plain (.go .casicChecksum3)

/-- `CASIC_CHECKSUM_3`: the last trailer byte (`42_binary_chains.md` R260). -/
def nextCasicChecksum3 (_c : Byte) (s : State) : Trans := s.plain (.recog .casic)

/-- `CASIC_RECOGNIZED` (`42_binary_chains.md` R261). -/
def nextCasicRecognized (c : Byte) (s : State) : Trans := s.expect (c == 0xBA) .casicLeader1

/-! ## The meanings -/

/-- `ST.CASIC_LEADER_1` (`42_binary_chains.md` R251). -/
def execStCasicLeader1 (c : Byte) (s : State) : Outcome := iteration (nextCasicLeader1 c) s

/-- `ST.CASIC_LEADER_2` (`42_binary_chains.md` R252). -/
def execStCasicLeader2 (c : Byte) (s : State) : Outcome := iteration (nextCasicLeader2 c) s

/-- `ST.CASIC_LENGTH_1` (`42_binary_chains.md` R253). -/
def execStCasicLength1 (c : Byte) (s : State) : Outcome := iteration (nextCasicLength1 c) s

/-- `ST.CASIC_LENGTH_2` (`42_binary_chains.md` R254). -/
def execStCasicLength2 (c : Byte) (s : State) : Outcome := iteration (nextCasicLength2 c) s

/-- `ST.CASIC_CLASS_ID` (`42_binary_chains.md` R255). -/
def execStCasicClassId (c : Byte) (s : State) : Outcome := iteration (nextCasicClassId c) s

/-- `ST.CASIC_MESSAGE_ID` (`42_binary_chains.md` R256). -/
def execStCasicMessageId (c : Byte) (s : State) : Outcome := iteration (nextCasicMessageId c) s

/-- `ST.CASIC_PAYLOAD` (`42_binary_chains.md` R257). -/
def execStCasicPayload (c : Byte) (s : State) : Outcome := iteration (nextCasicPayload c) s

/-- `ST.CASIC_CHECKSUM_1` (`42_binary_chains.md` R258). -/
def execStCasicChecksum1 (c : Byte) (s : State) : Outcome := iteration (nextCasicChecksum1 c) s

/-- `ST.CASIC_CHECKSUM_2` (`42_binary_chains.md` R259). -/
def execStCasicChecksum2 (c : Byte) (s : State) : Outcome := iteration (nextCasicChecksum2 c) s

/-- `ST.CASIC_CHECKSUM_3` (`42_binary_chains.md` R260). -/
def execStCasicChecksum3 (c : Byte) (s : State) : Outcome := iteration (nextCasicChecksum3 c) s

/-- `ST.CASIC_RECOGNIZED` (`42_binary_chains.md` R261). -/
def execStCasicRecognized (c : Byte) (s : State) : Outcome := iteration (nextCasicRecognized c) s

end Sys2Proof.Machine
end

