-- ==== Sys2Proof/Machine/Comment.lean ====
section
/-! DEFINITION. The comment chain (`41_text_chains.md` R174, R175). -/

namespace Sys2Proof.Machine

/-- `COMMENT_BODY` (`41_text_chains.md` R174). -/
def nextCommentBody (c : Byte) (s : State) : Trans :=
  if c = 0x0A then s.plain (.recog .comment)
  else s.expect (c == 0x0D || c == 0x09 || isPrintable c) .commentBody

/-- `COMMENT_RECOGNIZED` (`41_text_chains.md` R175). -/
def nextCommentRecognized (c : Byte) (s : State) : Trans := s.expect (c == 0x23) .commentBody

/-! ## The meanings -/

/-- `ST.COMMENT_BODY` (`41_text_chains.md` R174). -/
def execStCommentBody (c : Byte) (s : State) : Outcome := iteration (nextCommentBody c) s

/-- `ST.COMMENT_RECOGNIZED` (`41_text_chains.md` R175). -/
def execStCommentRecognized (c : Byte) (s : State) : Outcome := iteration (nextCommentRecognized c) s

end Sys2Proof.Machine
end

