-- ==== Sys2Proof/Machine/Geostar.lean ====
section
/-! DEFINITION. The GEOSTAR chain (`42_binary_chains.md` R263 to R275). -/

namespace Sys2Proof.Machine

/-- `GEOSTAR_LEADER_1` (`42_binary_chains.md` R263). -/
def nextGeostarLeader1 (c : Byte) (s : State) : Trans := s.expect (c == 0x53) .geostarLeader2

/-- `GEOSTAR_LEADER_2` (`42_binary_chains.md` R264). -/
def nextGeostarLeader2 (c : Byte) (s : State) : Trans := s.expect (c == 0x47) .geostarLeader3

/-- `GEOSTAR_LEADER_3` (`42_binary_chains.md` R265). -/
def nextGeostarLeader3 (c : Byte) (s : State) : Trans := s.expect (c == 0x47) .geostarLeader4

/-- `GEOSTAR_LEADER_4` (`42_binary_chains.md` R266): any byte. -/
def nextGeostarLeader4 (_c : Byte) (s : State) : Trans := s.plain (.go .geostarMessageId1)

/-- `GEOSTAR_MESSAGE_ID_1` (`42_binary_chains.md` R267): any byte. -/
def nextGeostarMessageId1 (_c : Byte) (s : State) : Trans := s.plain (.go .geostarMessageId2)

/-- `GEOSTAR_MESSAGE_ID_2`: the low byte of the word count (`42_binary_chains.md` R268). -/
def nextGeostarMessageId2 (c : Byte) (s : State) : Trans := s.load c.toNat (.go .geostarLength1)

/-- `GEOSTAR_LENGTH_1`: the high byte of the word count; `pending` counts bytes (`42_binary_chains.md` R269). -/
def nextGeostarLength1 (c : Byte) (s : State) : Trans :=
  let len := 4 * le16Length s.pending c
  s.load len (if s.overLength 12 len then .cap else .go .geostarLength2)

/-- `GEOSTAR_LENGTH_2` (`42_binary_chains.md` R270). -/
def nextGeostarLength2 (_c : Byte) (s : State) : Trans := s.countdown .geostarPayload .geostarChecksum1

/-- `GEOSTAR_PAYLOAD` (`42_binary_chains.md` R271). -/
def nextGeostarPayload (_c : Byte) (s : State) : Trans := s.countdown .geostarPayload .geostarChecksum1

/-- `GEOSTAR_CHECKSUM_1` (`42_binary_chains.md` R272): any byte. -/
def nextGeostarChecksum1 (_c : Byte) (s : State) : Trans := s.plain (.go .geostarChecksum2)

/-- `GEOSTAR_CHECKSUM_2` (`42_binary_chains.md` R273): any byte. -/
def nextGeostarChecksum2 (_c : Byte) (s : State) : Trans := s.plain (.go .geostarChecksum3)

/-- `GEOSTAR_CHECKSUM_3`: the last trailer byte (`42_binary_chains.md` R274). -/
def nextGeostarChecksum3 (_c : Byte) (s : State) : Trans := s.plain (.recog .geostar)

/-- `GEOSTAR_RECOGNIZED` (`42_binary_chains.md` R275). -/
def nextGeostarRecognized (c : Byte) (s : State) : Trans := s.expect (c == 0x50) .geostarLeader1

/-! ## The meanings -/

/-- `ST.GEOSTAR_LEADER_1` (`42_binary_chains.md` R263). -/
def execStGeostarLeader1 (c : Byte) (s : State) : Outcome := iteration (nextGeostarLeader1 c) s

/-- `ST.GEOSTAR_LEADER_2` (`42_binary_chains.md` R264). -/
def execStGeostarLeader2 (c : Byte) (s : State) : Outcome := iteration (nextGeostarLeader2 c) s

/-- `ST.GEOSTAR_LEADER_3` (`42_binary_chains.md` R265). -/
def execStGeostarLeader3 (c : Byte) (s : State) : Outcome := iteration (nextGeostarLeader3 c) s

/-- `ST.GEOSTAR_LEADER_4` (`42_binary_chains.md` R266). -/
def execStGeostarLeader4 (c : Byte) (s : State) : Outcome := iteration (nextGeostarLeader4 c) s

/-- `ST.GEOSTAR_MESSAGE_ID_1` (`42_binary_chains.md` R267). -/
def execStGeostarMessageId1 (c : Byte) (s : State) : Outcome := iteration (nextGeostarMessageId1 c) s

/-- `ST.GEOSTAR_MESSAGE_ID_2` (`42_binary_chains.md` R268). -/
def execStGeostarMessageId2 (c : Byte) (s : State) : Outcome := iteration (nextGeostarMessageId2 c) s

/-- `ST.GEOSTAR_LENGTH_1` (`42_binary_chains.md` R269). -/
def execStGeostarLength1 (c : Byte) (s : State) : Outcome := iteration (nextGeostarLength1 c) s

/-- `ST.GEOSTAR_LENGTH_2` (`42_binary_chains.md` R270). -/
def execStGeostarLength2 (c : Byte) (s : State) : Outcome := iteration (nextGeostarLength2 c) s

/-- `ST.GEOSTAR_PAYLOAD` (`42_binary_chains.md` R271). -/
def execStGeostarPayload (c : Byte) (s : State) : Outcome := iteration (nextGeostarPayload c) s

/-- `ST.GEOSTAR_CHECKSUM_1` (`42_binary_chains.md` R272). -/
def execStGeostarChecksum1 (c : Byte) (s : State) : Outcome := iteration (nextGeostarChecksum1 c) s

/-- `ST.GEOSTAR_CHECKSUM_2` (`42_binary_chains.md` R273). -/
def execStGeostarChecksum2 (c : Byte) (s : State) : Outcome := iteration (nextGeostarChecksum2 c) s

/-- `ST.GEOSTAR_CHECKSUM_3` (`42_binary_chains.md` R274). -/
def execStGeostarChecksum3 (c : Byte) (s : State) : Outcome := iteration (nextGeostarChecksum3 c) s

/-- `ST.GEOSTAR_RECOGNIZED` (`42_binary_chains.md` R275). -/
def execStGeostarRecognized (c : Byte) (s : State) : Outcome := iteration (nextGeostarRecognized c) s

end Sys2Proof.Machine
end

