-- ==== Sys2Proof/Machine/Greis.lean ====
section
/-! DEFINITION. The GREIS chain (`42_binary_chains.md` R277 to R283). -/

namespace Sys2Proof.Machine

/-- `GREIS_ID_1` (`42_binary_chains.md` R277). -/
def nextGreisId1 (c : Byte) (s : State) : Trans := s.expect (isGreisId c) .greisId2

/-- `GREIS_ID_2`: the first length digit (`42_binary_chains.md` R278). -/
def nextGreisId2 (c : Byte) (s : State) : Trans :=
  if isHexUpper c then s.load (256 * hexVal c) (.go .greisLength1) else s.plain (.push .groundState)

/-- `GREIS_LENGTH_1`: the second length digit (`42_binary_chains.md` R279). -/
def nextGreisLength1 (c : Byte) (s : State) : Trans :=
  if isHexUpper c then s.load (s.pending + 16 * hexVal c) (.go .greisLength2) else s.plain (.push .groundState)

/-- `GREIS_LENGTH_2`: the third length digit, the capacity test, the empty body (`42_binary_chains.md` R280,
`60_exceptions.md` R379(b)). -/
def nextGreisLength2 (c : Byte) (s : State) : Trans :=
  if isHexUpper c then
    let len := s.pending + hexVal c
    s.load len (if s.overLength 5 len then .cap else if len = 0 then .recog .greis else .go .greisLength3)
  else s.plain (.push .groundState)

/-- The GREIS countdown: the byte that brings the count to zero completes the frame (`42_binary_chains.md` R282). -/
def greisCountdown (s : State) : Trans :=
  if s.pending = 0 then s.plain (.push .groundState)
  else s.load (s.pending - 1) (if s.pending - 1 = 0 then .recog .greis else .go .greisPayload)

/-- `GREIS_LENGTH_3` (`42_binary_chains.md` R281). -/
def nextGreisLength3 (_c : Byte) (s : State) : Trans := greisCountdown s

/-- `GREIS_PAYLOAD` (`42_binary_chains.md` R282). -/
def nextGreisPayload (_c : Byte) (s : State) : Trans := greisCountdown s

/-- `GREIS_RECOGNIZED` (`42_binary_chains.md` R283). -/
def nextGreisRecognized (c : Byte) (s : State) : Trans :=
  if c = 0x0D ∨ c = 0x0A then s.plain (.drop .greisRecognized)
  else if c = 0x7B then s.plain (.push .groundState)
  else s.expect (isGreisId c) .greisId1

/-! ## The meanings -/

/-- `ST.GREIS_ID_1` (`42_binary_chains.md` R277). -/
def execStGreisId1 (c : Byte) (s : State) : Outcome := iteration (nextGreisId1 c) s

/-- `ST.GREIS_ID_2` (`42_binary_chains.md` R278). -/
def execStGreisId2 (c : Byte) (s : State) : Outcome := iteration (nextGreisId2 c) s

/-- `ST.GREIS_LENGTH_1` (`42_binary_chains.md` R279). -/
def execStGreisLength1 (c : Byte) (s : State) : Outcome := iteration (nextGreisLength1 c) s

/-- `ST.GREIS_LENGTH_2` (`42_binary_chains.md` R280). -/
def execStGreisLength2 (c : Byte) (s : State) : Outcome := iteration (nextGreisLength2 c) s

/-- `ST.GREIS_LENGTH_3` (`42_binary_chains.md` R281). -/
def execStGreisLength3 (c : Byte) (s : State) : Outcome := iteration (nextGreisLength3 c) s

/-- `ST.GREIS_PAYLOAD` (`42_binary_chains.md` R282). -/
def execStGreisPayload (c : Byte) (s : State) : Outcome := iteration (nextGreisPayload c) s

/-- `ST.GREIS_RECOGNIZED` (`42_binary_chains.md` R283). -/
def execStGreisRecognized (c : Byte) (s : State) : Outcome := iteration (nextGreisRecognized c) s

end Sys2Proof.Machine
end

