-- ==== Sys2Proof/Machine/Ground.lean ====
section
/-! DEFINITION. The ground state: the rows of format `GB` (`30_encoding.md` R94, R95; `41_text_chains.md` R171 to R173)
and the row `ST.GROUND_STATE`. -/

namespace Sys2Proof.Machine

/-- The offer of a byte to the RTCM2 sub-recognizer, the open parameter `RTCM2_HOOK` (`41_text_chains.md` R173,
`42_binary_chains.md` R295): on `NO_SYNC` the byte is dropped, and on a sync or a completed message the automaton switches
into the RTCM2 branch, the byte the first of the candidate (log entry 7). -/
def rtcm2Offer (c : Byte) (s : State) : Trans :=
  match Config.rtcm2Step s.rtcm2 c with
  | (r, .noSync) => ⟨.drop .groundState, s.pending, s.jsonDepth, r⟩
  | (r, .sync) => ⟨.go (.branch .rtcm2 (Config.rtcm2Entry .sync r)), s.pending, s.jsonDepth, r⟩
  | (r, .message) => ⟨.go (.branch .rtcm2 (Config.rtcm2Entry .message r)), s.pending, s.jsonDepth, r⟩

/-- `GROUND_STATE`, any byte no enabled leader claims (`41_text_chains.md` R172). -/
def nextOtherByte (c : Byte) (s : State) : Trans :=
  if s.cfg.chainEn.getLsbD 17 then rtcm2Offer c s else s.plain (.drop .groundState)

/-- A leader of a chain with rules: the first state of the chain if its bit of `CFG.CHAIN_EN` is set, otherwise any
other byte (`41_text_chains.md` R171, R172). -/
def leader (s : State) (bit : Nat) (c : Byte) (q : LexState) : Trans :=
  if s.cfg.chainEn.getLsbD bit then s.plain (.go q) else nextOtherByte c s

/-- The leader of an open chain: any other byte (`41_text_chains.md` R172), unless the chain is switched on, when it
commits to the chain's first state, a parameter (`42_binary_chains.md` R294; log entry 6). -/
def openLeader (s : State) (bit : Nat) (c : Byte) (ch : OpenChain) : Trans :=
  if s.cfg.chainEn.getLsbD bit then s.plain (.go (.branch ch (Config.branchEntry ch))) else nextOtherByte c s

/-- Byte 0x23 in the ground state: row `GB.COMMENT`, bit 0 of `CFG.CHAIN_EN` (`30_encoding.md` R95, `41_text_chains.md` R171). -/
def nextGbComment (s : State) : Trans := leader s 0 0x23 .commentBody

/-- Byte 0x24 in the ground state: row `GB.NMEA`, bit 1 of `CFG.CHAIN_EN` (`30_encoding.md` R95, `41_text_chains.md` R171). -/
def nextGbNmea (s : State) : Trans := leader s 1 0x24 .nmeaDollar

/-- Byte 0x21 in the ground state: row `GB.AIS`, bit 2 of `CFG.CHAIN_EN` (`30_encoding.md` R95, `41_text_chains.md` R171). -/
def nextGbAis (s : State) : Trans := leader s 2 0x21 .nmeaBang

/-- Byte 0x7B in the ground state: row `GB.JSON`, bit 3 of `CFG.CHAIN_EN` (`30_encoding.md` R95, `41_text_chains.md` R171). -/
def nextGbJson (s : State) : Trans :=
  if s.cfg.chainEn.getLsbD 3 then s.depth 1 (.go .jsonBody) else nextOtherByte 0x7B s

/-- Byte 0xB5 in the ground state: row `GB.UBX`, bit 4 of `CFG.CHAIN_EN` (`30_encoding.md` R95, `41_text_chains.md` R171). -/
def nextGbUbx (s : State) : Trans := leader s 4 0xB5 .ubxLeader1

/-- Byte 0xD3 in the ground state: row `GB.RTCM3`, bit 5 of `CFG.CHAIN_EN` (`30_encoding.md` R95, `41_text_chains.md` R171). -/
def nextGbRtcm3 (s : State) : Trans := leader s 5 0xD3 .rtcm3Leader1

/-- Byte 0xBA in the ground state: row `GB.CASIC`, bit 6 of `CFG.CHAIN_EN` (`30_encoding.md` R95, `41_text_chains.md` R171). -/
def nextGbCasic (s : State) : Trans := leader s 6 0xBA .casicLeader1

/-- Byte 0xF1 in the ground state: row `GB.ALLYSTAR`, bit 7 of `CFG.CHAIN_EN` (`30_encoding.md` R95, `41_text_chains.md` R171). -/
def nextGbAllystar (s : State) : Trans := leader s 7 0xF1 .allyLeader1

/-- Byte 0x01 in the ground state: row `GB.SUPERSTAR2`, bit 8 of `CFG.CHAIN_EN` (`30_encoding.md` R95, `41_text_chains.md` R172). -/
def nextGbSuperstar2 (s : State) : Trans := openLeader s 8 0x01 .superstar2

/-- Byte 0x02 in the ground state: row `GB.NAVCOM`, bit 9 of `CFG.CHAIN_EN` (`30_encoding.md` R95, `41_text_chains.md` R172). -/
def nextGbNavcom (s : State) : Trans := openLeader s 9 0x02 .navcom

/-- Byte 0x10 in the ground state: row `GB.DLE`, bit 10 of `CFG.CHAIN_EN` (`30_encoding.md` R95, `41_text_chains.md` R172). -/
def nextGbDle (s : State) : Trans := openLeader s 10 0x10 .dle

/-- Byte 0xFF in the ground state: row `GB.ZODIAC`, bit 11 of `CFG.CHAIN_EN` (`30_encoding.md` R95, `41_text_chains.md` R172). -/
def nextGbZodiac (s : State) : Trans := openLeader s 11 0xFF .zodiac

/-- Byte 0xA0 in the ground state: row `GB.SIRF`, bit 12 of `CFG.CHAIN_EN` (`30_encoding.md` R95, `41_text_chains.md` R172). -/
def nextGbSirf (s : State) : Trans := openLeader s 12 0xA0 .sirf

/-- Byte 0x7E in the ground state: row `GB.GREIS`, bit 13 of `CFG.CHAIN_EN` (`30_encoding.md` R95, `41_text_chains.md` R171). -/
def nextGbGreis (s : State) : Trans := leader s 13 0x7E .greisId1

/-- Byte 0x3C in the ground state: row `GB.ITALK`, bit 14 of `CFG.CHAIN_EN` (`30_encoding.md` R95, `41_text_chains.md` R172). -/
def nextGbItalk (s : State) : Trans := openLeader s 14 0x3C .italk

/-- Byte 0x50 in the ground state: row `GB.GEOSTAR`, bit 15 of `CFG.CHAIN_EN` (`30_encoding.md` R95, `41_text_chains.md` R171). -/
def nextGbGeostar (s : State) : Trans := leader s 15 0x50 .geostarLeader1

/-- Byte 0x40 in the ground state: row `GB.AT`, bit 16 of `CFG.CHAIN_EN` (`30_encoding.md` R95, `41_text_chains.md` R172). -/
def nextGbAt (s : State) : Trans := openLeader s 16 0x40 .at

/-- `GROUND_STATE` on any byte (`41_text_chains.md` R171, R172). -/
def nextGroundState (c : Byte) (s : State) : Trans :=
  if c = 0x23 then nextGbComment s
  else if c = 0x24 then nextGbNmea s
  else if c = 0x21 then nextGbAis s
  else if c = 0x7B then nextGbJson s
  else if c = 0xB5 then nextGbUbx s
  else if c = 0xD3 then nextGbRtcm3 s
  else if c = 0xBA then nextGbCasic s
  else if c = 0xF1 then nextGbAllystar s
  else if c = 0x01 then nextGbSuperstar2 s
  else if c = 0x02 then nextGbNavcom s
  else if c = 0x10 then nextGbDle s
  else if c = 0xFF then nextGbZodiac s
  else if c = 0xA0 then nextGbSirf s
  else if c = 0x7E then nextGbGreis s
  else if c = 0x3C then nextGbItalk s
  else if c = 0x50 then nextGbGeostar s
  else if c = 0x40 then nextGbAt s
  else nextOtherByte c s

/-! ## The meanings -/

/-- `GB.COMMENT` (`41_text_chains.md` R171). -/
def execGbComment (s : State) : Outcome := iteration nextGbComment s

/-- `GB.NMEA` (`41_text_chains.md` R171). -/
def execGbNmea (s : State) : Outcome := iteration nextGbNmea s

/-- `GB.AIS` (`41_text_chains.md` R171). -/
def execGbAis (s : State) : Outcome := iteration nextGbAis s

/-- `GB.JSON` (`41_text_chains.md` R171). -/
def execGbJson (s : State) : Outcome := iteration nextGbJson s

/-- `GB.UBX` (`41_text_chains.md` R171). -/
def execGbUbx (s : State) : Outcome := iteration nextGbUbx s

/-- `GB.RTCM3` (`41_text_chains.md` R171). -/
def execGbRtcm3 (s : State) : Outcome := iteration nextGbRtcm3 s

/-- `GB.CASIC` (`41_text_chains.md` R171). -/
def execGbCasic (s : State) : Outcome := iteration nextGbCasic s

/-- `GB.ALLYSTAR` (`41_text_chains.md` R171). -/
def execGbAllystar (s : State) : Outcome := iteration nextGbAllystar s

/-- `GB.SUPERSTAR2` (`41_text_chains.md` R172). -/
def execGbSuperstar2 (s : State) : Outcome := iteration nextGbSuperstar2 s

/-- `GB.NAVCOM` (`41_text_chains.md` R172). -/
def execGbNavcom (s : State) : Outcome := iteration nextGbNavcom s

/-- `GB.DLE` (`41_text_chains.md` R172). -/
def execGbDle (s : State) : Outcome := iteration nextGbDle s

/-- `GB.ZODIAC` (`41_text_chains.md` R172). -/
def execGbZodiac (s : State) : Outcome := iteration nextGbZodiac s

/-- `GB.SIRF` (`41_text_chains.md` R172). -/
def execGbSirf (s : State) : Outcome := iteration nextGbSirf s

/-- `GB.GREIS` (`41_text_chains.md` R171). -/
def execGbGreis (s : State) : Outcome := iteration nextGbGreis s

/-- `GB.ITALK` (`41_text_chains.md` R172). -/
def execGbItalk (s : State) : Outcome := iteration nextGbItalk s

/-- `GB.GEOSTAR` (`41_text_chains.md` R171). -/
def execGbGeostar (s : State) : Outcome := iteration nextGbGeostar s

/-- `GB.AT` (`41_text_chains.md` R172). -/
def execGbAt (s : State) : Outcome := iteration nextGbAt s

/-- `GB.OTHER` (`41_text_chains.md` R172, R173). -/
def execGbOther (c : Byte) (s : State) : Outcome := iteration (nextOtherByte c) s

/-- `ST.GROUND_STATE` (`41_text_chains.md` R171, R172). -/
def execStGroundState (c : Byte) (s : State) : Outcome := iteration (nextGroundState c) s

end Sys2Proof.Machine
end

