-- ==== Sys2Proof/Machine/Json.lean ====
section
/-! DEFINITION. The JSON chain (`41_text_chains.md` R193 to R198). -/

namespace Sys2Proof.Machine

/-- `JSON_BODY` (`41_text_chains.md` R194). -/
def nextJsonBody (c : Byte) (s : State) : Trans :=
  if c = 0x7B ∨ c = 0x5B then s.depth (s.jsonDepth + 1) (.go .jsonBody)
  else if c = 0x7D ∨ c = 0x5D then
    s.depth (s.jsonDepth - 1) (if s.jsonDepth - 1 = 0 then .recog .json else .go .jsonBody)
  else if c = 0x22 then s.plain (.go .jsonString)
  else if c = 0x20 ∨ c = 0x09 ∨ c = 0x0A ∨ c = 0x0D ∨ c = 0x2C ∨ c = 0x3A then s.plain (.go .jsonBody)
  else s.expect (c == 0x2D || isDigit c || c == 0x74 || c == 0x66 || c == 0x6E) .jsonValue

/-- `JSON_STRING` (`41_text_chains.md` R195). -/
def nextJsonString (c : Byte) (s : State) : Trans :=
  if c = 0x5C then s.plain (.go .jsonEscape)
  else if c = 0x22 then s.plain (.go .jsonBody)
  else s.expect (decide (0x20 ≤ c)) .jsonString

/-- `JSON_ESCAPE`: any byte (`41_text_chains.md` R196). -/
def nextJsonEscape (_c : Byte) (s : State) : Trans := s.plain (.go .jsonString)

/-- `JSON_VALUE`: the one state that pushes back to `JSON_BODY` (`41_text_chains.md` R197). -/
def nextJsonValue (c : Byte) (s : State) : Trans :=
  if isDigit c || c == 0x2E || c == 0x65 || c == 0x45 || c == 0x2B || c == 0x2D || isLower c then
    s.plain (.go .jsonValue)
  else s.plain (.push .jsonBody)

/-- `JSON_RECOGNIZED` (`41_text_chains.md` R198). -/
def nextJsonRecognized (c : Byte) (s : State) : Trans :=
  if c = 0x7B then s.depth 1 (.go .jsonBody) else s.plain (.push .groundState)

/-! ## The meanings -/

/-- `ST.JSON_BODY` (`41_text_chains.md` R194). -/
def execStJsonBody (c : Byte) (s : State) : Outcome := iteration (nextJsonBody c) s

/-- `ST.JSON_STRING` (`41_text_chains.md` R195). -/
def execStJsonString (c : Byte) (s : State) : Outcome := iteration (nextJsonString c) s

/-- `ST.JSON_ESCAPE` (`41_text_chains.md` R196). -/
def execStJsonEscape (c : Byte) (s : State) : Outcome := iteration (nextJsonEscape c) s

/-- `ST.JSON_VALUE` (`41_text_chains.md` R197). -/
def execStJsonValue (c : Byte) (s : State) : Outcome := iteration (nextJsonValue c) s

/-- `ST.JSON_RECOGNIZED` (`41_text_chains.md` R198). -/
def execStJsonRecognized (c : Byte) (s : State) : Outcome := iteration (nextJsonRecognized c) s

end Sys2Proof.Machine
end

