-- ==== Sys2Proof/Machine/Nmea.lean ====
section
/-! DEFINITION. The NMEA and AIS chains (`41_text_chains.md` R177 to R191) and the rows of format `TK` (`30_encoding.md` R96). -/

namespace Sys2Proof.Machine

/-- The second talker characters the table `TALKER2` accepts after the first character `x`
(`41_text_chains.md` R178, R181). -/
def talkerAccepts (cfg : Config) (x c : Byte) : Bool := cfg.talker2.any (fun p => p.1 == x && p.2.contains c)

/-- `NMEA_LEAD_x` (`41_text_chains.md` R178), one rule for ten states. -/
def nextNmeaLead (x c : Byte) (s : State) : Trans := s.expect (talkerAccepts s.cfg x c) .nmeaLeaderEnd

/-- Byte 0x47 in `NMEA_DOLLAR`: row `TK.G` (`30_encoding.md` R96, `41_text_chains.md` R177). -/
def nextTkG (s : State) : Trans := s.plain (.go .nmeaLeadG)

/-- Byte 0x50 in `NMEA_DOLLAR`: row `TK.P` (`30_encoding.md` R96, `41_text_chains.md` R177). -/
def nextTkP (s : State) : Trans := s.plain (.go .nmeaVendorLead)

/-- Byte 0x41 in `NMEA_DOLLAR`: row `TK.A` (`30_encoding.md` R96, `41_text_chains.md` R177). -/
def nextTkA (s : State) : Trans := s.plain (.go .nmeaLeadA)

/-- Byte 0x42 in `NMEA_DOLLAR`: row `TK.B` (`30_encoding.md` R96, `41_text_chains.md` R177). -/
def nextTkB (s : State) : Trans := s.plain (.go .nmeaLeadB)

/-- Byte 0x48 in `NMEA_DOLLAR`: row `TK.H` (`30_encoding.md` R96, `41_text_chains.md` R177). -/
def nextTkH (s : State) : Trans := s.plain (.go .nmeaLeadH)

/-- Byte 0x49 in `NMEA_DOLLAR`: row `TK.I` (`30_encoding.md` R96, `41_text_chains.md` R177). -/
def nextTkI (s : State) : Trans := s.plain (.go .nmeaLeadI)

/-- Byte 0x51 in `NMEA_DOLLAR`: row `TK.Q` (`30_encoding.md` R96, `41_text_chains.md` R177). -/
def nextTkQ (s : State) : Trans := s.plain (.go .nmeaLeadQ)

/-- Byte 0x53 in `NMEA_DOLLAR`: row `TK.S` (`30_encoding.md` R96, `41_text_chains.md` R177). -/
def nextTkS (s : State) : Trans := s.plain (.go .nmeaLeadS)

/-- Byte 0x54 in `NMEA_DOLLAR`: row `TK.T` (`30_encoding.md` R96, `41_text_chains.md` R177). -/
def nextTkT (s : State) : Trans := s.plain (.go .nmeaLeadT)

/-- Byte 0x57 in `NMEA_DOLLAR`: row `TK.W` (`30_encoding.md` R96, `41_text_chains.md` R177). -/
def nextTkW (s : State) : Trans := s.plain (.go .nmeaLeadW)

/-- Byte 0x59 in `NMEA_DOLLAR`: row `TK.Y` (`30_encoding.md` R96, `41_text_chains.md` R177). -/
def nextTkY (s : State) : Trans := s.plain (.go .nmeaLeadY)

/-- `NMEA_DOLLAR` on any other byte (`41_text_chains.md` R177). -/
def nextTkOther (_c : Byte) (s : State) : Trans := s.plain (.push .groundState)

/-- `NMEA_DOLLAR` (`41_text_chains.md` R177). -/
def nextNmeaDollar (c : Byte) (s : State) : Trans :=
  if c = 0x47 then nextTkG s
  else if c = 0x50 then nextTkP s
  else if c = 0x41 then nextTkA s
  else if c = 0x42 then nextTkB s
  else if c = 0x48 then nextTkH s
  else if c = 0x49 then nextTkI s
  else if c = 0x51 then nextTkQ s
  else if c = 0x53 then nextTkS s
  else if c = 0x54 then nextTkT s
  else if c = 0x57 then nextTkW s
  else if c = 0x59 then nextTkY s
  else nextTkOther c s

/-- `NMEA_LEAD_G` (`41_text_chains.md` R178). -/
def nextNmeaLeadG (c : Byte) (s : State) : Trans := nextNmeaLead 0x47 c s

/-- `NMEA_LEAD_A` (`41_text_chains.md` R178). -/
def nextNmeaLeadA (c : Byte) (s : State) : Trans := nextNmeaLead 0x41 c s

/-- `NMEA_LEAD_B` (`41_text_chains.md` R178). -/
def nextNmeaLeadB (c : Byte) (s : State) : Trans := nextNmeaLead 0x42 c s

/-- `NMEA_LEAD_H` (`41_text_chains.md` R178). -/
def nextNmeaLeadH (c : Byte) (s : State) : Trans := nextNmeaLead 0x48 c s

/-- `NMEA_LEAD_I` (`41_text_chains.md` R178). -/
def nextNmeaLeadI (c : Byte) (s : State) : Trans := nextNmeaLead 0x49 c s

/-- `NMEA_LEAD_Q` (`41_text_chains.md` R178). -/
def nextNmeaLeadQ (c : Byte) (s : State) : Trans := nextNmeaLead 0x51 c s

/-- `NMEA_LEAD_S` (`41_text_chains.md` R178). -/
def nextNmeaLeadS (c : Byte) (s : State) : Trans := nextNmeaLead 0x53 c s

/-- `NMEA_LEAD_T` (`41_text_chains.md` R178). -/
def nextNmeaLeadT (c : Byte) (s : State) : Trans := nextNmeaLead 0x54 c s

/-- `NMEA_LEAD_W` (`41_text_chains.md` R178). -/
def nextNmeaLeadW (c : Byte) (s : State) : Trans := nextNmeaLead 0x57 c s

/-- `NMEA_LEAD_Y` (`41_text_chains.md` R178). -/
def nextNmeaLeadY (c : Byte) (s : State) : Trans := nextNmeaLead 0x59 c s

/-- `NMEA_VENDOR_LEAD` (`41_text_chains.md` R179). -/
def nextNmeaVendorLead (c : Byte) (s : State) : Trans :=
  if c = 0x41 then s.plain (.go .nmeaPashrA) else s.expect (isUpper c) .nmeaLeaderEnd

/-- `NmeaBody(c)` (`41_text_chains.md` R184). -/
def nmeaBody (c : Byte) (s : State) : Trans :=
  if c = 0x0D then s.plain (.go .nmeaCr)
  else if c = 0x0A then s.plain (.recog .nmea)
  else if c = 0x24 ∨ c = 0x7B then s.plain (.push .groundState)
  else s.expect (isPrintable c) .nmeaLeaderEnd

/-- `NMEA_PASHR_A` (`41_text_chains.md` R180). -/
def nextNmeaPashrA (c : Byte) (s : State) : Trans := if c = 0x53 then s.plain (.go .nmeaPashrS) else nmeaBody c s

/-- `NMEA_PASHR_S` (`41_text_chains.md` R180). -/
def nextNmeaPashrS (c : Byte) (s : State) : Trans := if c = 0x48 then s.plain (.go .nmeaPashrH) else nmeaBody c s

/-- `NMEA_PASHR_H` (`41_text_chains.md` R180). -/
def nextNmeaPashrH (c : Byte) (s : State) : Trans :=
  if c = 0x52 then s.plain (.go .nmeaBinaryBody) else nmeaBody c s

/-- `NMEA_BINARY_BODY` (`41_text_chains.md` R182). -/
def nextNmeaBinaryBody (c : Byte) (s : State) : Trans :=
  if c = 0x0D then s.plain (.go .nmeaBinaryCr) else s.plain (.go .nmeaBinaryBody)

/-- `NMEA_BINARY_CR` (`41_text_chains.md` R183). -/
def nextNmeaBinaryCr (c : Byte) (s : State) : Trans :=
  if c = 0x0A then s.plain (.recog .nmea)
  else if c = 0x0D then s.plain (.go .nmeaBinaryCr)
  else s.plain (.go .nmeaBinaryBody)

/-- `NMEA_LEADER_END` (`41_text_chains.md` R184). -/
def nextNmeaLeaderEnd (c : Byte) (s : State) : Trans := nmeaBody c s

/-- `NMEA_CR` (`41_text_chains.md` R185). -/
def nextNmeaCr (c : Byte) (s : State) : Trans :=
  if c = 0x0A then s.plain (.recog .nmea) else s.plain (.push .groundState)

/-- `NMEA_RECOGNIZED`: the leaders of the two chains, each only if its chain is enabled (`41_text_chains.md` R186). -/
def nextNmeaRecognized (c : Byte) (s : State) : Trans :=
  if c = 0x24 ∧ s.cfg.chainEn.getLsbD 1 then s.plain (.go .nmeaDollar)
  else if c = 0x21 ∧ s.cfg.chainEn.getLsbD 2 then s.plain (.go .nmeaBang)
  else s.plain (.push .groundState)

/-- `NMEA_BANG` (`41_text_chains.md` R190). -/
def nextNmeaBang (c : Byte) (s : State) : Trans := s.expect (s.cfg.aisPrefix.any (fun p => p.1 == c)) .aisLead1

/-- `AIS_LEAD_1`: the pair (`inbuf[1]`, `c`) (`41_text_chains.md` R191). -/
def nextAisLead1 (c : Byte) (s : State) : Trans :=
  s.expect (s.cfg.aisPrefix.any (fun p => p.2 == c && p.1 == s.inByte 1)) .nmeaLeaderEnd

/-! ## The meanings -/

/-- `TK.G` (`41_text_chains.md` R177). -/
def execTkG (s : State) : Outcome := iteration nextTkG s

/-- `TK.P` (`41_text_chains.md` R177). -/
def execTkP (s : State) : Outcome := iteration nextTkP s

/-- `TK.A` (`41_text_chains.md` R177). -/
def execTkA (s : State) : Outcome := iteration nextTkA s

/-- `TK.B` (`41_text_chains.md` R177). -/
def execTkB (s : State) : Outcome := iteration nextTkB s

/-- `TK.H` (`41_text_chains.md` R177). -/
def execTkH (s : State) : Outcome := iteration nextTkH s

/-- `TK.I` (`41_text_chains.md` R177). -/
def execTkI (s : State) : Outcome := iteration nextTkI s

/-- `TK.Q` (`41_text_chains.md` R177). -/
def execTkQ (s : State) : Outcome := iteration nextTkQ s

/-- `TK.S` (`41_text_chains.md` R177). -/
def execTkS (s : State) : Outcome := iteration nextTkS s

/-- `TK.T` (`41_text_chains.md` R177). -/
def execTkT (s : State) : Outcome := iteration nextTkT s

/-- `TK.W` (`41_text_chains.md` R177). -/
def execTkW (s : State) : Outcome := iteration nextTkW s

/-- `TK.Y` (`41_text_chains.md` R177). -/
def execTkY (s : State) : Outcome := iteration nextTkY s

/-- `TK.OTHER` (`41_text_chains.md` R177). -/
def execTkOther (c : Byte) (s : State) : Outcome := iteration (nextTkOther c) s

/-- `ST.NMEA_DOLLAR` (`41_text_chains.md` R177). -/
def execStNmeaDollar (c : Byte) (s : State) : Outcome := iteration (nextNmeaDollar c) s

/-- `ST.NMEA_LEAD_G` (`41_text_chains.md` R178). -/
def execStNmeaLeadG (c : Byte) (s : State) : Outcome := iteration (nextNmeaLeadG c) s

/-- `ST.NMEA_LEAD_A` (`41_text_chains.md` R178). -/
def execStNmeaLeadA (c : Byte) (s : State) : Outcome := iteration (nextNmeaLeadA c) s

/-- `ST.NMEA_LEAD_B` (`41_text_chains.md` R178). -/
def execStNmeaLeadB (c : Byte) (s : State) : Outcome := iteration (nextNmeaLeadB c) s

/-- `ST.NMEA_LEAD_H` (`41_text_chains.md` R178). -/
def execStNmeaLeadH (c : Byte) (s : State) : Outcome := iteration (nextNmeaLeadH c) s

/-- `ST.NMEA_LEAD_I` (`41_text_chains.md` R178). -/
def execStNmeaLeadI (c : Byte) (s : State) : Outcome := iteration (nextNmeaLeadI c) s

/-- `ST.NMEA_LEAD_Q` (`41_text_chains.md` R178). -/
def execStNmeaLeadQ (c : Byte) (s : State) : Outcome := iteration (nextNmeaLeadQ c) s

/-- `ST.NMEA_LEAD_S` (`41_text_chains.md` R178). -/
def execStNmeaLeadS (c : Byte) (s : State) : Outcome := iteration (nextNmeaLeadS c) s

/-- `ST.NMEA_LEAD_T` (`41_text_chains.md` R178). -/
def execStNmeaLeadT (c : Byte) (s : State) : Outcome := iteration (nextNmeaLeadT c) s

/-- `ST.NMEA_LEAD_W` (`41_text_chains.md` R178). -/
def execStNmeaLeadW (c : Byte) (s : State) : Outcome := iteration (nextNmeaLeadW c) s

/-- `ST.NMEA_LEAD_Y` (`41_text_chains.md` R178). -/
def execStNmeaLeadY (c : Byte) (s : State) : Outcome := iteration (nextNmeaLeadY c) s

/-- `ST.NMEA_VENDOR_LEAD` (`41_text_chains.md` R179). -/
def execStNmeaVendorLead (c : Byte) (s : State) : Outcome := iteration (nextNmeaVendorLead c) s

/-- `ST.NMEA_PASHR_A` (`41_text_chains.md` R180). -/
def execStNmeaPashrA (c : Byte) (s : State) : Outcome := iteration (nextNmeaPashrA c) s

/-- `ST.NMEA_PASHR_S` (`41_text_chains.md` R180). -/
def execStNmeaPashrS (c : Byte) (s : State) : Outcome := iteration (nextNmeaPashrS c) s

/-- `ST.NMEA_PASHR_H` (`41_text_chains.md` R180). -/
def execStNmeaPashrH (c : Byte) (s : State) : Outcome := iteration (nextNmeaPashrH c) s

/-- `ST.NMEA_BINARY_BODY` (`41_text_chains.md` R182). -/
def execStNmeaBinaryBody (c : Byte) (s : State) : Outcome := iteration (nextNmeaBinaryBody c) s

/-- `ST.NMEA_BINARY_CR` (`41_text_chains.md` R183). -/
def execStNmeaBinaryCr (c : Byte) (s : State) : Outcome := iteration (nextNmeaBinaryCr c) s

/-- `ST.NMEA_LEADER_END` (`41_text_chains.md` R184). -/
def execStNmeaLeaderEnd (c : Byte) (s : State) : Outcome := iteration (nextNmeaLeaderEnd c) s

/-- `ST.NMEA_CR` (`41_text_chains.md` R185). -/
def execStNmeaCr (c : Byte) (s : State) : Outcome := iteration (nextNmeaCr c) s

/-- `ST.NMEA_RECOGNIZED` (`41_text_chains.md` R186). -/
def execStNmeaRecognized (c : Byte) (s : State) : Outcome := iteration (nextNmeaRecognized c) s

/-- `ST.NMEA_BANG` (`41_text_chains.md` R190). -/
def execStNmeaBang (c : Byte) (s : State) : Outcome := iteration (nextNmeaBang c) s

/-- `ST.AIS_LEAD_1` (`41_text_chains.md` R191). -/
def execStAisLead1 (c : Byte) (s : State) : Outcome := iteration (nextAisLead1 c) s

end Sys2Proof.Machine
end

