-- ==== Sys2Proof/Machine/Rtcm3.lean ====
section
/-! DEFINITION. The RTCM3 chain (`42_binary_chains.md` R285 to R291). -/

namespace Sys2Proof.Machine

/-- `RTCM3_LEADER_1`: six reserved zero bits and the two high length bits (`42_binary_chains.md` R285). -/
def nextRtcm3Leader1 (c : Byte) (s : State) : Trans :=
  if c &&& 0xFC ≠ 0 then s.plain (.push .groundState)
  else s.load (256 * (c &&& 0x03).toNat) (.go .rtcm3Length1)

/-- `RTCM3_LENGTH_1`: the low length byte and the capacity test (`42_binary_chains.md` R286). -/
def nextRtcm3Length1 (c : Byte) (s : State) : Trans :=
  let len := s.pending + c.toNat
  s.load len (if s.overLength 6 len then .cap else .go .rtcm3Length2)

/-- `RTCM3_LENGTH_2` (`42_binary_chains.md` R287). -/
def nextRtcm3Length2 (_c : Byte) (s : State) : Trans := s.countdown .rtcm3Payload .rtcm3Crc1

/-- `RTCM3_PAYLOAD` (`42_binary_chains.md` R288). -/
def nextRtcm3Payload (_c : Byte) (s : State) : Trans := s.countdown .rtcm3Payload .rtcm3Crc1

/-- `RTCM3_CRC_1` (`42_binary_chains.md` R289): any byte. -/
def nextRtcm3Crc1 (_c : Byte) (s : State) : Trans := s.plain (.go .rtcm3Crc2)

/-- `RTCM3_CRC_2`: the last trailer byte (`42_binary_chains.md` R290). -/
def nextRtcm3Crc2 (_c : Byte) (s : State) : Trans := s.plain (.recog .rtcm3)

/-- `RTCM3_RECOGNIZED` (`42_binary_chains.md` R291). -/
def nextRtcm3Recognized (c : Byte) (s : State) : Trans := s.expect (c == 0xD3) .rtcm3Leader1

/-! ## The meanings -/

/-- `ST.RTCM3_LEADER_1` (`42_binary_chains.md` R285). -/
def execStRtcm3Leader1 (c : Byte) (s : State) : Outcome := iteration (nextRtcm3Leader1 c) s

/-- `ST.RTCM3_LENGTH_1` (`42_binary_chains.md` R286). -/
def execStRtcm3Length1 (c : Byte) (s : State) : Outcome := iteration (nextRtcm3Length1 c) s

/-- `ST.RTCM3_LENGTH_2` (`42_binary_chains.md` R287). -/
def execStRtcm3Length2 (c : Byte) (s : State) : Outcome := iteration (nextRtcm3Length2 c) s

/-- `ST.RTCM3_PAYLOAD` (`42_binary_chains.md` R288). -/
def execStRtcm3Payload (c : Byte) (s : State) : Outcome := iteration (nextRtcm3Payload c) s

/-- `ST.RTCM3_CRC_1` (`42_binary_chains.md` R289). -/
def execStRtcm3Crc1 (c : Byte) (s : State) : Outcome := iteration (nextRtcm3Crc1 c) s

/-- `ST.RTCM3_CRC_2` (`42_binary_chains.md` R290). -/
def execStRtcm3Crc2 (c : Byte) (s : State) : Outcome := iteration (nextRtcm3Crc2 c) s

/-- `ST.RTCM3_RECOGNIZED` (`42_binary_chains.md` R291). -/
def execStRtcm3Recognized (c : Byte) (s : State) : Outcome := iteration (nextRtcm3Recognized c) s

end Sys2Proof.Machine
end

