-- ==== Sys2Proof/Machine/Ubx.lean ====
section
/-! DEFINITION. The UBX chain (`42_binary_chains.md` R231 to R239). -/

namespace Sys2Proof.Machine

/-- `UBX_LEADER_1` (`42_binary_chains.md` R231). -/
def nextUbxLeader1 (c : Byte) (s : State) : Trans := s.expect (c == 0x62) .ubxLeader2

/-- `UBX_LEADER_2` (`42_binary_chains.md` R232): any byte. -/
def nextUbxLeader2 (_c : Byte) (s : State) : Trans := s.plain (.go .ubxClassId)

/-- `UBX_CLASS_ID` (`42_binary_chains.md` R233): any byte. -/
def nextUbxClassId (_c : Byte) (s : State) : Trans := s.plain (.go .ubxMessageId)

/-- `UBX_MESSAGE_ID`: the low length byte (`42_binary_chains.md` R234). -/
def nextUbxMessageId (c : Byte) (s : State) : Trans := s.load c.toNat (.go .ubxLength1)

/-- `UBX_LENGTH_1`: the high length byte and the capacity test (`42_binary_chains.md` R235). -/
def nextUbxLength1 (c : Byte) (s : State) : Trans :=
  let len := le16Length s.pending c
  s.load len (if s.overLength 8 len then .cap else .go .ubxLength2)

/-- `UBX_LENGTH_2` (`42_binary_chains.md` R236). -/
def nextUbxLength2 (_c : Byte) (s : State) : Trans := s.countdown .ubxPayload .ubxChecksumA

/-- `UBX_PAYLOAD` (`42_binary_chains.md` R237). -/
def nextUbxPayload (_c : Byte) (s : State) : Trans := s.countdown .ubxPayload .ubxChecksumA

/-- `UBX_CHECKSUM_A`: the last trailer byte (`42_binary_chains.md` R238). -/
def nextUbxChecksumA (_c : Byte) (s : State) : Trans := s.plain (.recog .ubx)

/-- `UBX_RECOGNIZED` (`42_binary_chains.md` R239). -/
def nextUbxRecognized (c : Byte) (s : State) : Trans := s.expect (c == 0xB5) .ubxLeader1

/-! ## The meanings -/

/-- `ST.UBX_LEADER_1` (`42_binary_chains.md` R231). -/
def execStUbxLeader1 (c : Byte) (s : State) : Outcome := iteration (nextUbxLeader1 c) s

/-- `ST.UBX_LEADER_2` (`42_binary_chains.md` R232). -/
def execStUbxLeader2 (c : Byte) (s : State) : Outcome := iteration (nextUbxLeader2 c) s

/-- `ST.UBX_CLASS_ID` (`42_binary_chains.md` R233). -/
def execStUbxClassId (c : Byte) (s : State) : Outcome := iteration (nextUbxClassId c) s

/-- `ST.UBX_MESSAGE_ID` (`42_binary_chains.md` R234). -/
def execStUbxMessageId (c : Byte) (s : State) : Outcome := iteration (nextUbxMessageId c) s

/-- `ST.UBX_LENGTH_1` (`42_binary_chains.md` R235). -/
def execStUbxLength1 (c : Byte) (s : State) : Outcome := iteration (nextUbxLength1 c) s

/-- `ST.UBX_LENGTH_2` (`42_binary_chains.md` R236). -/
def execStUbxLength2 (c : Byte) (s : State) : Outcome := iteration (nextUbxLength2 c) s

/-- `ST.UBX_PAYLOAD` (`42_binary_chains.md` R237). -/
def execStUbxPayload (c : Byte) (s : State) : Outcome := iteration (nextUbxPayload c) s

/-- `ST.UBX_CHECKSUM_A` (`42_binary_chains.md` R238). -/
def execStUbxChecksumA (c : Byte) (s : State) : Outcome := iteration (nextUbxChecksumA c) s

/-- `ST.UBX_RECOGNIZED` (`42_binary_chains.md` R239). -/
def execStUbxRecognized (c : Byte) (s : State) : Outcome := iteration (nextUbxRecognized c) s

end Sys2Proof.Machine
end

