-- ==== Sys2Proof/Machine/Lex.lean ====
section
/-! DEFINITION. The LEX commands (`40_lexer_core.md` R131 to R135). -/

namespace Sys2Proof.Machine

/-- The iteration in a given state on a given byte: the transition function's choice of a rule by the state's name
(`40_lexer_core.md` R150). -/
def iterateIn (q : LexState) (c : Byte) (s : State) : Outcome :=
  match q with
  | .groundState => execStGroundState c s
  | .commentBody => execStCommentBody c s
  | .commentRecognized => execStCommentRecognized c s
  | .nmeaDollar => execStNmeaDollar c s
  | .nmeaLeadG => execStNmeaLeadG c s
  | .nmeaLeadA => execStNmeaLeadA c s
  | .nmeaLeadB => execStNmeaLeadB c s
  | .nmeaLeadH => execStNmeaLeadH c s
  | .nmeaLeadI => execStNmeaLeadI c s
  | .nmeaLeadQ => execStNmeaLeadQ c s
  | .nmeaLeadS => execStNmeaLeadS c s
  | .nmeaLeadT => execStNmeaLeadT c s
  | .nmeaLeadW => execStNmeaLeadW c s
  | .nmeaLeadY => execStNmeaLeadY c s
  | .nmeaVendorLead => execStNmeaVendorLead c s
  | .nmeaPashrA => execStNmeaPashrA c s
  | .nmeaPashrS => execStNmeaPashrS c s
  | .nmeaPashrH => execStNmeaPashrH c s
  | .nmeaBinaryBody => execStNmeaBinaryBody c s
  | .nmeaBinaryCr => execStNmeaBinaryCr c s
  | .nmeaLeaderEnd => execStNmeaLeaderEnd c s
  | .nmeaCr => execStNmeaCr c s
  | .nmeaRecognized => execStNmeaRecognized c s
  | .nmeaBang => execStNmeaBang c s
  | .aisLead1 => execStAisLead1 c s
  | .jsonBody => execStJsonBody c s
  | .jsonString => execStJsonString c s
  | .jsonEscape => execStJsonEscape c s
  | .jsonValue => execStJsonValue c s
  | .jsonRecognized => execStJsonRecognized c s
  | .ubxLeader1 => execStUbxLeader1 c s
  | .ubxLeader2 => execStUbxLeader2 c s
  | .ubxClassId => execStUbxClassId c s
  | .ubxMessageId => execStUbxMessageId c s
  | .ubxLength1 => execStUbxLength1 c s
  | .ubxLength2 => execStUbxLength2 c s
  | .ubxPayload => execStUbxPayload c s
  | .ubxChecksumA => execStUbxChecksumA c s
  | .ubxRecognized => execStUbxRecognized c s
  | .allyLeader1 => execStAllyLeader1 c s
  | .allyLeader2 => execStAllyLeader2 c s
  | .allyClassId => execStAllyClassId c s
  | .allyMessageId => execStAllyMessageId c s
  | .allyLength1 => execStAllyLength1 c s
  | .allyLength2 => execStAllyLength2 c s
  | .allyPayload => execStAllyPayload c s
  | .allyChecksumA => execStAllyChecksumA c s
  | .allyRecognized => execStAllyRecognized c s
  | .casicLeader1 => execStCasicLeader1 c s
  | .casicLeader2 => execStCasicLeader2 c s
  | .casicLength1 => execStCasicLength1 c s
  | .casicLength2 => execStCasicLength2 c s
  | .casicClassId => execStCasicClassId c s
  | .casicMessageId => execStCasicMessageId c s
  | .casicPayload => execStCasicPayload c s
  | .casicChecksum1 => execStCasicChecksum1 c s
  | .casicChecksum2 => execStCasicChecksum2 c s
  | .casicChecksum3 => execStCasicChecksum3 c s
  | .casicRecognized => execStCasicRecognized c s
  | .geostarLeader1 => execStGeostarLeader1 c s
  | .geostarLeader2 => execStGeostarLeader2 c s
  | .geostarLeader3 => execStGeostarLeader3 c s
  | .geostarLeader4 => execStGeostarLeader4 c s
  | .geostarMessageId1 => execStGeostarMessageId1 c s
  | .geostarMessageId2 => execStGeostarMessageId2 c s
  | .geostarLength1 => execStGeostarLength1 c s
  | .geostarLength2 => execStGeostarLength2 c s
  | .geostarPayload => execStGeostarPayload c s
  | .geostarChecksum1 => execStGeostarChecksum1 c s
  | .geostarChecksum2 => execStGeostarChecksum2 c s
  | .geostarChecksum3 => execStGeostarChecksum3 c s
  | .geostarRecognized => execStGeostarRecognized c s
  | .greisId1 => execStGreisId1 c s
  | .greisId2 => execStGreisId2 c s
  | .greisLength1 => execStGreisLength1 c s
  | .greisLength2 => execStGreisLength2 c s
  | .greisLength3 => execStGreisLength3 c s
  | .greisPayload => execStGreisPayload c s
  | .greisRecognized => execStGreisRecognized c s
  | .rtcm3Leader1 => execStRtcm3Leader1 c s
  | .rtcm3Length1 => execStRtcm3Length1 c s
  | .rtcm3Length2 => execStRtcm3Length2 c s
  | .rtcm3Payload => execStRtcm3Payload c s
  | .rtcm3Crc1 => execStRtcm3Crc1 c s
  | .rtcm3Crc2 => execStRtcm3Crc2 c s
  | .rtcm3Recognized => execStRtcm3Recognized c s
  | .branch ch k => iterateBranch ch k c s

/-- `Iterate()` at the position (`state`, `rp`) (`10_state.md` R26, `40_lexer_core.md` R136). -/
def iterate (s : State) : Outcome := iterateIn s.state (s.inByte s.rp) s

/-- The loop of `LEX.PARSE` (`40_lexer_core.md` R134): passes until one ends the command, which hands the machine back
to the host. The bound counts iterations; the pass that finds no byte left is not one (`70_reset_and_hazards.md`
R422; log entry 17). -/
def parseLoop : Nat → State → Outcome
  | bound, s =>
    if s.rp = s.inlen then .next s.exhausted
    else
      match bound with
      | 0 => .fault .parseBound
      | k + 1 =>
        match iterate s with
        | .next t => if t.source = .host then .next t else parseLoop k t
        | .fault f => .fault f
        | .refused r => .refused r

/-- `LEX.INIT` (`40_lexer_core.md` R131). -/
def execLexInit (s : State) : Outcome := .next s.init

/-- `LEX.FEED bytes` (`40_lexer_core.md` R133): as many of the bytes as fit, and their count. -/
def execLexFeed (bytes : List Byte) (s : State) : Outcome :=
  let k := min bytes.length (s.cfg.inCap - s.inlen)
  .next ((s.append (bytes.take k)).withResult (.count k))

/-- The bound on the iterations of a `LEX.PARSE`: three a byte (`70_reset_and_hazards.md` R422), and with the stash on those
its rules may add (log entry 8). -/
def State.iterationBound (s : State) : Nat :=
  3 * (s.inlen - s.rp) + if s.cfg.stashEn then Config.stashIterations s.stashView else 0

/-- `LEX.PARSE` (`40_lexer_core.md` R134), one atomic command (`00_scope.md` R12). -/
def execLexParse (s : State) : Outcome := parseLoop s.iterationBound { s with source := .stream }

end Sys2Proof.Machine
end

