-- ==== Sys2Proof/Machine/Dispatch.lean ====
section
/-! DEFINITION. One arm per instruction. -/

namespace Sys2Proof.Machine

def exec (i : Instr) (s : State) : Host.Outcome State Fault Refusal :=
  match i with
  | .lexInit => Sys2Proof.Machine.execLexInit s
  | .lexFeed bytes => Sys2Proof.Machine.execLexFeed bytes s
  | .lexParse => Sys2Proof.Machine.execLexParse s
  | .chkXor8 src => Sys2Proof.Machine.execChkXor8 src s
  | .chkCs8 src => Sys2Proof.Machine.execChkCs8 src s
  | .chkFletch8 src => Sys2Proof.Machine.execChkFletch8 src s
  | .chkSum32 src => Sys2Proof.Machine.execChkSum32 src s
  | .chkXor32 src => Sys2Proof.Machine.execChkXor32 src s
  | .chkCrc24q src => Sys2Proof.Machine.execChkCrc24q src s
  | .bfxUbits src start width le => Sys2Proof.Machine.execBfxUbits src start width le s
  | .bfxSbits src start width le => Sys2Proof.Machine.execBfxSbits src start width le s
  | .bfxGetbeu16 src off => Sys2Proof.Machine.execBfxGetbeu16 src off s
  | .bfxGetbeu32 src off => Sys2Proof.Machine.execBfxGetbeu32 src off s
  | .bfxGetbeu64 src off => Sys2Proof.Machine.execBfxGetbeu64 src off s
  | .bfxGetbes16 src off => Sys2Proof.Machine.execBfxGetbes16 src off s
  | .bfxGetbes32 src off => Sys2Proof.Machine.execBfxGetbes32 src off s
  | .bfxGetbes64 src off => Sys2Proof.Machine.execBfxGetbes64 src off s
  | .bfxGetbef32 src off => Sys2Proof.Machine.execBfxGetbef32 src off s
  | .bfxGetbed64 src off => Sys2Proof.Machine.execBfxGetbed64 src off s
  | .bfxGetleu16 src off => Sys2Proof.Machine.execBfxGetleu16 src off s
  | .bfxGetleu32 src off => Sys2Proof.Machine.execBfxGetleu32 src off s
  | .bfxGetleu64 src off => Sys2Proof.Machine.execBfxGetleu64 src off s
  | .bfxGetles16 src off => Sys2Proof.Machine.execBfxGetles16 src off s
  | .bfxGetles32 src off => Sys2Proof.Machine.execBfxGetles32 src off s
  | .bfxGetles64 src off => Sys2Proof.Machine.execBfxGetles64 src off s
  | .bfxGetlef32 src off => Sys2Proof.Machine.execBfxGetlef32 src off s
  | .bfxGetled64 src off => Sys2Proof.Machine.execBfxGetled64 src off s
  | .gbComment => Sys2Proof.Machine.execGbComment s
  | .gbNmea => Sys2Proof.Machine.execGbNmea s
  | .gbAis => Sys2Proof.Machine.execGbAis s
  | .gbJson => Sys2Proof.Machine.execGbJson s
  | .gbUbx => Sys2Proof.Machine.execGbUbx s
  | .gbRtcm3 => Sys2Proof.Machine.execGbRtcm3 s
  | .gbCasic => Sys2Proof.Machine.execGbCasic s
  | .gbAllystar => Sys2Proof.Machine.execGbAllystar s
  | .gbSuperstar2 => Sys2Proof.Machine.execGbSuperstar2 s
  | .gbNavcom => Sys2Proof.Machine.execGbNavcom s
  | .gbDle => Sys2Proof.Machine.execGbDle s
  | .gbZodiac => Sys2Proof.Machine.execGbZodiac s
  | .gbSirf => Sys2Proof.Machine.execGbSirf s
  | .gbGreis => Sys2Proof.Machine.execGbGreis s
  | .gbItalk => Sys2Proof.Machine.execGbItalk s
  | .gbGeostar => Sys2Proof.Machine.execGbGeostar s
  | .gbAt => Sys2Proof.Machine.execGbAt s
  | .gbOther c => Sys2Proof.Machine.execGbOther c s
  | .tkG => Sys2Proof.Machine.execTkG s
  | .tkP => Sys2Proof.Machine.execTkP s
  | .tkA => Sys2Proof.Machine.execTkA s
  | .tkB => Sys2Proof.Machine.execTkB s
  | .tkH => Sys2Proof.Machine.execTkH s
  | .tkI => Sys2Proof.Machine.execTkI s
  | .tkQ => Sys2Proof.Machine.execTkQ s
  | .tkS => Sys2Proof.Machine.execTkS s
  | .tkT => Sys2Proof.Machine.execTkT s
  | .tkW => Sys2Proof.Machine.execTkW s
  | .tkY => Sys2Proof.Machine.execTkY s
  | .tkOther c => Sys2Proof.Machine.execTkOther c s
  | .stGroundState c => Sys2Proof.Machine.execStGroundState c s
  | .stCommentBody c => Sys2Proof.Machine.execStCommentBody c s
  | .stCommentRecognized c => Sys2Proof.Machine.execStCommentRecognized c s
  | .stNmeaDollar c => Sys2Proof.Machine.execStNmeaDollar c s
  | .stNmeaLeadG c => Sys2Proof.Machine.execStNmeaLeadG c s
  | .stNmeaLeadA c => Sys2Proof.Machine.execStNmeaLeadA c s
  | .stNmeaLeadB c => Sys2Proof.Machine.execStNmeaLeadB c s
  | .stNmeaLeadH c => Sys2Proof.Machine.execStNmeaLeadH c s
  | .stNmeaLeadI c => Sys2Proof.Machine.execStNmeaLeadI c s
  | .stNmeaLeadQ c => Sys2Proof.Machine.execStNmeaLeadQ c s
  | .stNmeaLeadS c => Sys2Proof.Machine.execStNmeaLeadS c s
  | .stNmeaLeadT c => Sys2Proof.Machine.execStNmeaLeadT c s
  | .stNmeaLeadW c => Sys2Proof.Machine.execStNmeaLeadW c s
  | .stNmeaLeadY c => Sys2Proof.Machine.execStNmeaLeadY c s
  | .stNmeaVendorLead c => Sys2Proof.Machine.execStNmeaVendorLead c s
  | .stNmeaPashrA c => Sys2Proof.Machine.execStNmeaPashrA c s
  | .stNmeaPashrS c => Sys2Proof.Machine.execStNmeaPashrS c s
  | .stNmeaPashrH c => Sys2Proof.Machine.execStNmeaPashrH c s
  | .stNmeaBinaryBody c => Sys2Proof.Machine.execStNmeaBinaryBody c s
  | .stNmeaBinaryCr c => Sys2Proof.Machine.execStNmeaBinaryCr c s
  | .stNmeaLeaderEnd c => Sys2Proof.Machine.execStNmeaLeaderEnd c s
  | .stNmeaCr c => Sys2Proof.Machine.execStNmeaCr c s
  | .stNmeaRecognized c => Sys2Proof.Machine.execStNmeaRecognized c s
  | .stNmeaBang c => Sys2Proof.Machine.execStNmeaBang c s
  | .stAisLead1 c => Sys2Proof.Machine.execStAisLead1 c s
  | .stJsonBody c => Sys2Proof.Machine.execStJsonBody c s
  | .stJsonString c => Sys2Proof.Machine.execStJsonString c s
  | .stJsonEscape c => Sys2Proof.Machine.execStJsonEscape c s
  | .stJsonValue c => Sys2Proof.Machine.execStJsonValue c s
  | .stJsonRecognized c => Sys2Proof.Machine.execStJsonRecognized c s
  | .stUbxLeader1 c => Sys2Proof.Machine.execStUbxLeader1 c s
  | .stUbxLeader2 c => Sys2Proof.Machine.execStUbxLeader2 c s
  | .stUbxClassId c => Sys2Proof.Machine.execStUbxClassId c s
  | .stUbxMessageId c => Sys2Proof.Machine.execStUbxMessageId c s
  | .stUbxLength1 c => Sys2Proof.Machine.execStUbxLength1 c s
  | .stUbxLength2 c => Sys2Proof.Machine.execStUbxLength2 c s
  | .stUbxPayload c => Sys2Proof.Machine.execStUbxPayload c s
  | .stUbxChecksumA c => Sys2Proof.Machine.execStUbxChecksumA c s
  | .stUbxRecognized c => Sys2Proof.Machine.execStUbxRecognized c s
  | .stAllyLeader1 c => Sys2Proof.Machine.execStAllyLeader1 c s
  | .stAllyLeader2 c => Sys2Proof.Machine.execStAllyLeader2 c s
  | .stAllyClassId c => Sys2Proof.Machine.execStAllyClassId c s
  | .stAllyMessageId c => Sys2Proof.Machine.execStAllyMessageId c s
  | .stAllyLength1 c => Sys2Proof.Machine.execStAllyLength1 c s
  | .stAllyLength2 c => Sys2Proof.Machine.execStAllyLength2 c s
  | .stAllyPayload c => Sys2Proof.Machine.execStAllyPayload c s
  | .stAllyChecksumA c => Sys2Proof.Machine.execStAllyChecksumA c s
  | .stAllyRecognized c => Sys2Proof.Machine.execStAllyRecognized c s
  | .stCasicLeader1 c => Sys2Proof.Machine.execStCasicLeader1 c s
  | .stCasicLeader2 c => Sys2Proof.Machine.execStCasicLeader2 c s
  | .stCasicLength1 c => Sys2Proof.Machine.execStCasicLength1 c s
  | .stCasicLength2 c => Sys2Proof.Machine.execStCasicLength2 c s
  | .stCasicClassId c => Sys2Proof.Machine.execStCasicClassId c s
  | .stCasicMessageId c => Sys2Proof.Machine.execStCasicMessageId c s
  | .stCasicPayload c => Sys2Proof.Machine.execStCasicPayload c s
  | .stCasicChecksum1 c => Sys2Proof.Machine.execStCasicChecksum1 c s
  | .stCasicChecksum2 c => Sys2Proof.Machine.execStCasicChecksum2 c s
  | .stCasicChecksum3 c => Sys2Proof.Machine.execStCasicChecksum3 c s
  | .stCasicRecognized c => Sys2Proof.Machine.execStCasicRecognized c s
  | .stGeostarLeader1 c => Sys2Proof.Machine.execStGeostarLeader1 c s
  | .stGeostarLeader2 c => Sys2Proof.Machine.execStGeostarLeader2 c s
  | .stGeostarLeader3 c => Sys2Proof.Machine.execStGeostarLeader3 c s
  | .stGeostarLeader4 c => Sys2Proof.Machine.execStGeostarLeader4 c s
  | .stGeostarMessageId1 c => Sys2Proof.Machine.execStGeostarMessageId1 c s
  | .stGeostarMessageId2 c => Sys2Proof.Machine.execStGeostarMessageId2 c s
  | .stGeostarLength1 c => Sys2Proof.Machine.execStGeostarLength1 c s
  | .stGeostarLength2 c => Sys2Proof.Machine.execStGeostarLength2 c s
  | .stGeostarPayload c => Sys2Proof.Machine.execStGeostarPayload c s
  | .stGeostarChecksum1 c => Sys2Proof.Machine.execStGeostarChecksum1 c s
  | .stGeostarChecksum2 c => Sys2Proof.Machine.execStGeostarChecksum2 c s
  | .stGeostarChecksum3 c => Sys2Proof.Machine.execStGeostarChecksum3 c s
  | .stGeostarRecognized c => Sys2Proof.Machine.execStGeostarRecognized c s
  | .stGreisId1 c => Sys2Proof.Machine.execStGreisId1 c s
  | .stGreisId2 c => Sys2Proof.Machine.execStGreisId2 c s
  | .stGreisLength1 c => Sys2Proof.Machine.execStGreisLength1 c s
  | .stGreisLength2 c => Sys2Proof.Machine.execStGreisLength2 c s
  | .stGreisLength3 c => Sys2Proof.Machine.execStGreisLength3 c s
  | .stGreisPayload c => Sys2Proof.Machine.execStGreisPayload c s
  | .stGreisRecognized c => Sys2Proof.Machine.execStGreisRecognized c s
  | .stRtcm3Leader1 c => Sys2Proof.Machine.execStRtcm3Leader1 c s
  | .stRtcm3Length1 c => Sys2Proof.Machine.execStRtcm3Length1 c s
  | .stRtcm3Length2 c => Sys2Proof.Machine.execStRtcm3Length2 c s
  | .stRtcm3Payload c => Sys2Proof.Machine.execStRtcm3Payload c s
  | .stRtcm3Crc1 c => Sys2Proof.Machine.execStRtcm3Crc1 c s
  | .stRtcm3Crc2 c => Sys2Proof.Machine.execStRtcm3Crc2 c s
  | .stRtcm3Recognized c => Sys2Proof.Machine.execStRtcm3Recognized c s

end Sys2Proof.Machine
end

