-- ==== Sys2Proof/WellFormed.lean ====
section
/-! DEFINITION. Which instructions are well formed: the operand ranges of `30_encoding.md` R91 and, for the two `OTHER`
rows, the bytes no other row of their format matches (`30_encoding.md` R95, R96). -/

namespace Sys2Proof

/-- The 17 leader bytes of the ground dispatch map (`30_encoding.md` R95). -/
def groundLeaders : List Byte :=
  [0x23, 0x24, 0x21, 0x7B, 0xB5, 0xD3, 0xBA, 0xF1, 0x01, 0x02, 0x10, 0xFF, 0xA0, 0x7E, 0x3C, 0x50, 0x40]

/-- The 11 talker bytes (`30_encoding.md` R96). -/
def talkerBytes : List Byte :=
  [0x47, 0x50, 0x41, 0x42, 0x48, 0x49, 0x51, 0x53, 0x54, 0x57, 0x59]

/-- Operands `start`, `width`, `off` are naturals below 2^32 (`30_encoding.md` R91). -/
def natOperandOk (n : Nat) : Bool := n < 2 ^ 32

/-- An `OUT` range's two numbers are naturals below 2^32 (`30_encoding.md` R91; of the length this is DEDUCED, log
entry 2); an immediate sequence is any finite byte sequence. -/
def Src.wf : Src → Bool
  | .imm _ => true
  | .out off n => natOperandOk off && natOperandOk n

/-- The well-formed instructions. -/
def Instr.wf : Instr → Bool
  | .lexInit => true
  | .lexFeed _ => true
  | .lexParse => true
  | .chkXor8 src => src.wf
  | .chkCs8 src => src.wf
  | .chkFletch8 src => src.wf
  | .chkSum32 src => src.wf
  | .chkXor32 src => src.wf
  | .chkCrc24q src => src.wf
  | .bfxUbits src start width _ => src.wf && natOperandOk start && natOperandOk width
  | .bfxSbits src start width _ => src.wf && natOperandOk start && natOperandOk width
  | .bfxGetbeu16 src off => src.wf && natOperandOk off
  | .bfxGetbeu32 src off => src.wf && natOperandOk off
  | .bfxGetbeu64 src off => src.wf && natOperandOk off
  | .bfxGetbes16 src off => src.wf && natOperandOk off
  | .bfxGetbes32 src off => src.wf && natOperandOk off
  | .bfxGetbes64 src off => src.wf && natOperandOk off
  | .bfxGetbef32 src off => src.wf && natOperandOk off
  | .bfxGetbed64 src off => src.wf && natOperandOk off
  | .bfxGetleu16 src off => src.wf && natOperandOk off
  | .bfxGetleu32 src off => src.wf && natOperandOk off
  | .bfxGetleu64 src off => src.wf && natOperandOk off
  | .bfxGetles16 src off => src.wf && natOperandOk off
  | .bfxGetles32 src off => src.wf && natOperandOk off
  | .bfxGetles64 src off => src.wf && natOperandOk off
  | .bfxGetlef32 src off => src.wf && natOperandOk off
  | .bfxGetled64 src off => src.wf && natOperandOk off
  | .gbComment => true
  | .gbNmea => true
  | .gbAis => true
  | .gbJson => true
  | .gbUbx => true
  | .gbRtcm3 => true
  | .gbCasic => true
  | .gbAllystar => true
  | .gbSuperstar2 => true
  | .gbNavcom => true
  | .gbDle => true
  | .gbZodiac => true
  | .gbSirf => true
  | .gbGreis => true
  | .gbItalk => true
  | .gbGeostar => true
  | .gbAt => true
  | .gbOther c => !groundLeaders.contains c
  | .tkG => true
  | .tkP => true
  | .tkA => true
  | .tkB => true
  | .tkH => true
  | .tkI => true
  | .tkQ => true
  | .tkS => true
  | .tkT => true
  | .tkW => true
  | .tkY => true
  | .tkOther c => !talkerBytes.contains c
  | .stGroundState _ => true
  | .stCommentBody _ => true
  | .stCommentRecognized _ => true
  | .stNmeaDollar _ => true
  | .stNmeaLeadG _ => true
  | .stNmeaLeadA _ => true
  | .stNmeaLeadB _ => true
  | .stNmeaLeadH _ => true
  | .stNmeaLeadI _ => true
  | .stNmeaLeadQ _ => true
  | .stNmeaLeadS _ => true
  | .stNmeaLeadT _ => true
  | .stNmeaLeadW _ => true
  | .stNmeaLeadY _ => true
  | .stNmeaVendorLead _ => true
  | .stNmeaPashrA _ => true
  | .stNmeaPashrS _ => true
  | .stNmeaPashrH _ => true
  | .stNmeaBinaryBody _ => true
  | .stNmeaBinaryCr _ => true
  | .stNmeaLeaderEnd _ => true
  | .stNmeaCr _ => true
  | .stNmeaRecognized _ => true
  | .stNmeaBang _ => true
  | .stAisLead1 _ => true
  | .stJsonBody _ => true
  | .stJsonString _ => true
  | .stJsonEscape _ => true
  | .stJsonValue _ => true
  | .stJsonRecognized _ => true
  | .stUbxLeader1 _ => true
  | .stUbxLeader2 _ => true
  | .stUbxClassId _ => true
  | .stUbxMessageId _ => true
  | .stUbxLength1 _ => true
  | .stUbxLength2 _ => true
  | .stUbxPayload _ => true
  | .stUbxChecksumA _ => true
  | .stUbxRecognized _ => true
  | .stAllyLeader1 _ => true
  | .stAllyLeader2 _ => true
  | .stAllyClassId _ => true
  | .stAllyMessageId _ => true
  | .stAllyLength1 _ => true
  | .stAllyLength2 _ => true
  | .stAllyPayload _ => true
  | .stAllyChecksumA _ => true
  | .stAllyRecognized _ => true
  | .stCasicLeader1 _ => true
  | .stCasicLeader2 _ => true
  | .stCasicLength1 _ => true
  | .stCasicLength2 _ => true
  | .stCasicClassId _ => true
  | .stCasicMessageId _ => true
  | .stCasicPayload _ => true
  | .stCasicChecksum1 _ => true
  | .stCasicChecksum2 _ => true
  | .stCasicChecksum3 _ => true
  | .stCasicRecognized _ => true
  | .stGeostarLeader1 _ => true
  | .stGeostarLeader2 _ => true
  | .stGeostarLeader3 _ => true
  | .stGeostarLeader4 _ => true
  | .stGeostarMessageId1 _ => true
  | .stGeostarMessageId2 _ => true
  | .stGeostarLength1 _ => true
  | .stGeostarLength2 _ => true
  | .stGeostarPayload _ => true
  | .stGeostarChecksum1 _ => true
  | .stGeostarChecksum2 _ => true
  | .stGeostarChecksum3 _ => true
  | .stGeostarRecognized _ => true
  | .stGreisId1 _ => true
  | .stGreisId2 _ => true
  | .stGreisLength1 _ => true
  | .stGreisLength2 _ => true
  | .stGreisLength3 _ => true
  | .stGreisPayload _ => true
  | .stGreisRecognized _ => true
  | .stRtcm3Leader1 _ => true
  | .stRtcm3Length1 _ => true
  | .stRtcm3Length2 _ => true
  | .stRtcm3Payload _ => true
  | .stRtcm3Crc1 _ => true
  | .stRtcm3Crc2 _ => true
  | .stRtcm3Recognized _ => true

end Sys2Proof
end

