-- ==== Sys2Proof/Decode.lean ====
section
/-! DEFINITION. The decoder, total on any bytes and rejecting by name, and after it the encoder.

The spec gives the four formats their codes (`30_encoding.md` R90, R92, R95, R96; `10_state.md` R35). Which format a
code belongs to is not in its bits: a command arrives from the host, a stream byte is a `GB` byte in `GROUND_STATE`, a
`TK` byte in `NMEA_DOLLAR`, and the byte of the state `state` elsewhere. The operands of a command are "carried beside
it" (R90) and have no layout in the spec; the byte layout below is the model's own (log entry 2). -/

namespace Sys2Proof

open Sys2Proof.Machine

/-- The formats of the opcode table (`30_encoding.md`, preamble). -/
inductive Format where
  | cmd | gb | tk | st
deriving DecidableEq, Repr

/-- Why the decoder rejects bytes. -/
inductive DecodeError where
  /-- A command code outside the map (`30_encoding.md` R93). -/
  | illegalCommand
  /-- The bytes end inside the instruction. -/
  | truncated
  /-- A byte-sequence operand with a marker that is neither 0 (end) nor 1 (a byte follows); layout of log entry 2. -/
  | badMarker
  /-- A `src` operand whose tag is neither 0 (`IMM`) nor 1 (`OUT`); layout of log entry 2. -/
  | badSourceTag
  /-- A one-bit operand (`30_encoding.md` R91) that is neither 0 nor 1; layout of log entry 2. -/
  | badFlag
  /-- A state code that no state has: 86 to 127 (`10_state.md` R35). -/
  | unusedState
deriving DecidableEq, Repr

/-- What reading an operand or an instruction gives: the thing read and the bytes after it, or a rejection. -/
abbrev Read (α : Type) := Except DecodeError (α × List Byte)

/-- A byte-sequence operand: for each byte the marker 1 and the byte, then the marker 0 (log entry 2). -/
def readSeq : List Byte → Read (List Byte)
  | [] => .error .truncated
  | m :: rest =>
    if m = 0 then .ok ([], rest)
    else if m = 1 then
      match rest with
      | [] => .error .truncated
      | b :: rest' =>
        match readSeq rest' with
        | .ok (bs, tail) => .ok (b :: bs, tail)
        | .error e => .error e
    else .error .badMarker

/-- A natural operand below 2^32: four bytes, least significant first (log entry 2). -/
def readNat : List Byte → Read Nat
  | b0 :: b1 :: b2 :: b3 :: rest =>
    .ok (b0.toNat + 256 * b1.toNat + 65536 * b2.toNat + 16777216 * b3.toNat, rest)
  | _ => .error .truncated

/-- A one-bit operand: one byte, 0 or 1 (log entry 2). -/
def readFlag : List Byte → Read Bool
  | [] => .error .truncated
  | b :: rest => if b = 0 then .ok (false, rest) else if b = 1 then .ok (true, rest) else .error .badFlag

/-- A `src` operand: the tag 0 and a byte sequence, or the tag 1 and the two numbers of `OUT[off, n]` (log entry 2). -/
def readSrc : List Byte → Read Src
  | [] => .error .truncated
  | t :: rest =>
    if t = 0 then
      match readSeq rest with
      | .ok (bs, tail) => .ok (.imm bs, tail)
      | .error e => .error e
    else if t = 1 then
      match readNat rest with
      | .error e => .error e
      | .ok (off, rest1) =>
        match readNat rest1 with
        | .ok (n, tail) => .ok (.out off n, tail)
        | .error e => .error e
    else .error .badSourceTag

/-- An instruction with the one operand `bytes`. -/
def readBytesForm (k : List Byte → Instr) (rest : List Byte) : Read Instr :=
  match readSeq rest with
  | .ok (bs, tail) => .ok (k bs, tail)
  | .error e => .error e

/-- An instruction with the one operand `src`. -/
def readSrcForm (k : Src → Instr) (rest : List Byte) : Read Instr :=
  match readSrc rest with
  | .ok (v, tail) => .ok (k v, tail)
  | .error e => .error e

/-- An instruction with the operands `src, off`. -/
def readOffForm (k : Src → Nat → Instr) (rest : List Byte) : Read Instr :=
  match readSrc rest with
  | .error e => .error e
  | .ok (v, rest1) =>
    match readNat rest1 with
    | .ok (off, tail) => .ok (k v off, tail)
    | .error e => .error e

/-- An instruction with the operands `src, start, width, le`. -/
def readFieldForm (k : Src → Nat → Nat → Bool → Instr) (rest : List Byte) : Read Instr :=
  match readSrc rest with
  | .error e => .error e
  | .ok (v, rest1) =>
    match readNat rest1 with
    | .error e => .error e
    | .ok (start, rest2) =>
      match readNat rest2 with
      | .error e => .error e
      | .ok (width, rest3) =>
        match readFlag rest3 with
        | .ok (le, tail) => .ok (k v start width le, tail)
        | .error e => .error e

/-- The command map (`30_encoding.md` R92); every other code is illegal (R93). -/
def decodeCmd (op : Byte) (rest : List Byte) : Read Instr :=
  if op = 0x00 then .ok (.lexInit, rest)
  else if op = 0x01 then readBytesForm .lexFeed rest
  else if op = 0x02 then .ok (.lexParse, rest)
  else if op = 0x10 then readSrcForm .chkXor8 rest
  else if op = 0x11 then readSrcForm .chkCs8 rest
  else if op = 0x12 then readSrcForm .chkFletch8 rest
  else if op = 0x13 then readSrcForm .chkSum32 rest
  else if op = 0x14 then readSrcForm .chkXor32 rest
  else if op = 0x15 then readSrcForm .chkCrc24q rest
  else if op = 0x20 then readFieldForm .bfxUbits rest
  else if op = 0x21 then readFieldForm .bfxSbits rest
  else if op = 0x30 then readOffForm .bfxGetbeu16 rest
  else if op = 0x31 then readOffForm .bfxGetbeu32 rest
  else if op = 0x32 then readOffForm .bfxGetbeu64 rest
  else if op = 0x33 then readOffForm .bfxGetbes16 rest
  else if op = 0x34 then readOffForm .bfxGetbes32 rest
  else if op = 0x35 then readOffForm .bfxGetbes64 rest
  else if op = 0x36 then readOffForm .bfxGetbef32 rest
  else if op = 0x37 then readOffForm .bfxGetbed64 rest
  else if op = 0x38 then readOffForm .bfxGetleu16 rest
  else if op = 0x39 then readOffForm .bfxGetleu32 rest
  else if op = 0x3A then readOffForm .bfxGetleu64 rest
  else if op = 0x3B then readOffForm .bfxGetles16 rest
  else if op = 0x3C then readOffForm .bfxGetles32 rest
  else if op = 0x3D then readOffForm .bfxGetles64 rest
  else if op = 0x3E then readOffForm .bfxGetlef32 rest
  else if op = 0x3F then readOffForm .bfxGetled64 rest
  else .error .illegalCommand

/-- The ground dispatch map (`30_encoding.md` R95). -/
def decodeGb (c : Byte) : Instr :=
  if c = 0x23 then .gbComment
  else if c = 0x24 then .gbNmea
  else if c = 0x21 then .gbAis
  else if c = 0x7B then .gbJson
  else if c = 0xB5 then .gbUbx
  else if c = 0xD3 then .gbRtcm3
  else if c = 0xBA then .gbCasic
  else if c = 0xF1 then .gbAllystar
  else if c = 0x01 then .gbSuperstar2
  else if c = 0x02 then .gbNavcom
  else if c = 0x10 then .gbDle
  else if c = 0xFF then .gbZodiac
  else if c = 0xA0 then .gbSirf
  else if c = 0x7E then .gbGreis
  else if c = 0x3C then .gbItalk
  else if c = 0x50 then .gbGeostar
  else if c = 0x40 then .gbAt
  else .gbOther c

/-- The talker dispatch map (`30_encoding.md` R96). -/
def decodeTk (c : Byte) : Instr :=
  if c = 0x47 then .tkG
  else if c = 0x50 then .tkP
  else if c = 0x41 then .tkA
  else if c = 0x42 then .tkB
  else if c = 0x48 then .tkH
  else if c = 0x49 then .tkI
  else if c = 0x51 then .tkQ
  else if c = 0x53 then .tkS
  else if c = 0x54 then .tkT
  else if c = 0x57 then .tkW
  else if c = 0x59 then .tkY
  else .tkOther c

/-- The row of an automaton state with the consumed byte `c` (`30_encoding.md`, preamble: format `ST`).
The states of the open chains have no row. -/
def stateRow (q : LexState) (c : Byte) : Option Instr :=
  match q with
  | .groundState => some (.stGroundState c)
  | .commentBody => some (.stCommentBody c)
  | .commentRecognized => some (.stCommentRecognized c)
  | .nmeaDollar => some (.stNmeaDollar c)
  | .nmeaLeadG => some (.stNmeaLeadG c)
  | .nmeaLeadA => some (.stNmeaLeadA c)
  | .nmeaLeadB => some (.stNmeaLeadB c)
  | .nmeaLeadH => some (.stNmeaLeadH c)
  | .nmeaLeadI => some (.stNmeaLeadI c)
  | .nmeaLeadQ => some (.stNmeaLeadQ c)
  | .nmeaLeadS => some (.stNmeaLeadS c)
  | .nmeaLeadT => some (.stNmeaLeadT c)
  | .nmeaLeadW => some (.stNmeaLeadW c)
  | .nmeaLeadY => some (.stNmeaLeadY c)
  | .nmeaVendorLead => some (.stNmeaVendorLead c)
  | .nmeaPashrA => some (.stNmeaPashrA c)
  | .nmeaPashrS => some (.stNmeaPashrS c)
  | .nmeaPashrH => some (.stNmeaPashrH c)
  | .nmeaBinaryBody => some (.stNmeaBinaryBody c)
  | .nmeaBinaryCr => some (.stNmeaBinaryCr c)
  | .nmeaLeaderEnd => some (.stNmeaLeaderEnd c)
  | .nmeaCr => some (.stNmeaCr c)
  | .nmeaRecognized => some (.stNmeaRecognized c)
  | .nmeaBang => some (.stNmeaBang c)
  | .aisLead1 => some (.stAisLead1 c)
  | .jsonBody => some (.stJsonBody c)
  | .jsonString => some (.stJsonString c)
  | .jsonEscape => some (.stJsonEscape c)
  | .jsonValue => some (.stJsonValue c)
  | .jsonRecognized => some (.stJsonRecognized c)
  | .ubxLeader1 => some (.stUbxLeader1 c)
  | .ubxLeader2 => some (.stUbxLeader2 c)
  | .ubxClassId => some (.stUbxClassId c)
  | .ubxMessageId => some (.stUbxMessageId c)
  | .ubxLength1 => some (.stUbxLength1 c)
  | .ubxLength2 => some (.stUbxLength2 c)
  | .ubxPayload => some (.stUbxPayload c)
  | .ubxChecksumA => some (.stUbxChecksumA c)
  | .ubxRecognized => some (.stUbxRecognized c)
  | .allyLeader1 => some (.stAllyLeader1 c)
  | .allyLeader2 => some (.stAllyLeader2 c)
  | .allyClassId => some (.stAllyClassId c)
  | .allyMessageId => some (.stAllyMessageId c)
  | .allyLength1 => some (.stAllyLength1 c)
  | .allyLength2 => some (.stAllyLength2 c)
  | .allyPayload => some (.stAllyPayload c)
  | .allyChecksumA => some (.stAllyChecksumA c)
  | .allyRecognized => some (.stAllyRecognized c)
  | .casicLeader1 => some (.stCasicLeader1 c)
  | .casicLeader2 => some (.stCasicLeader2 c)
  | .casicLength1 => some (.stCasicLength1 c)
  | .casicLength2 => some (.stCasicLength2 c)
  | .casicClassId => some (.stCasicClassId c)
  | .casicMessageId => some (.stCasicMessageId c)
  | .casicPayload => some (.stCasicPayload c)
  | .casicChecksum1 => some (.stCasicChecksum1 c)
  | .casicChecksum2 => some (.stCasicChecksum2 c)
  | .casicChecksum3 => some (.stCasicChecksum3 c)
  | .casicRecognized => some (.stCasicRecognized c)
  | .geostarLeader1 => some (.stGeostarLeader1 c)
  | .geostarLeader2 => some (.stGeostarLeader2 c)
  | .geostarLeader3 => some (.stGeostarLeader3 c)
  | .geostarLeader4 => some (.stGeostarLeader4 c)
  | .geostarMessageId1 => some (.stGeostarMessageId1 c)
  | .geostarMessageId2 => some (.stGeostarMessageId2 c)
  | .geostarLength1 => some (.stGeostarLength1 c)
  | .geostarLength2 => some (.stGeostarLength2 c)
  | .geostarPayload => some (.stGeostarPayload c)
  | .geostarChecksum1 => some (.stGeostarChecksum1 c)
  | .geostarChecksum2 => some (.stGeostarChecksum2 c)
  | .geostarChecksum3 => some (.stGeostarChecksum3 c)
  | .geostarRecognized => some (.stGeostarRecognized c)
  | .greisId1 => some (.stGreisId1 c)
  | .greisId2 => some (.stGreisId2 c)
  | .greisLength1 => some (.stGreisLength1 c)
  | .greisLength2 => some (.stGreisLength2 c)
  | .greisLength3 => some (.stGreisLength3 c)
  | .greisPayload => some (.stGreisPayload c)
  | .greisRecognized => some (.stGreisRecognized c)
  | .rtcm3Leader1 => some (.stRtcm3Leader1 c)
  | .rtcm3Length1 => some (.stRtcm3Length1 c)
  | .rtcm3Length2 => some (.stRtcm3Length2 c)
  | .rtcm3Payload => some (.stRtcm3Payload c)
  | .rtcm3Crc1 => some (.stRtcm3Crc1 c)
  | .rtcm3Crc2 => some (.stRtcm3Crc2 c)
  | .rtcm3Recognized => some (.stRtcm3Recognized c)
  | .branch _ _ => none

/-- The decoder: an instruction of the given format at the head of the bytes, and the bytes after it. An `ST` row is
the state code in the low 7 bits of its first byte (mask 0x7F in the table) and the consumed byte in the second. -/
def decode : Format → List Byte → Read Instr
  | .cmd, op :: rest => decodeCmd op rest
  | .gb, c :: rest => .ok (decodeGb c, rest)
  | .tk, c :: rest => .ok (decodeTk c, rest)
  | .st, q :: c :: rest =>
    match LexState.ofCode? (q.setWidth 7) with
    | some q' =>
      match stateRow q' c with
      | some i => .ok (i, rest)
      | none => .error .unusedState
    | none => .error .unusedState
  | _, _ => .error .truncated

/-- The instruction the automaton fetches at the position (`state`, `rp`) (`10_state.md` R26): the consumed byte `c` is
a ground byte in `GROUND_STATE` (`30_encoding.md` R94), a talker byte in `NMEA_DOLLAR` (R96), and the operand of
the state's row elsewhere (log entry 15). A state of an open chain has no row. -/
def decodeStream (q : LexState) (c : Byte) : Option Instr :=
  if q = .groundState then some (decodeGb c)
  else if q = .nmeaDollar then some (decodeTk c)
  else stateRow q c

/-! ## The encoder -/

/-- The bytes of a byte-sequence operand. -/
def encodeSeq : List Byte → List Byte
  | [] => [0]
  | b :: bs => 1 :: b :: encodeSeq bs

/-- The bytes of a natural operand. -/
def encodeNat (n : Nat) : List Byte :=
  [BitVec.ofNat 8 n, BitVec.ofNat 8 (n / 256), BitVec.ofNat 8 (n / 65536), BitVec.ofNat 8 (n / 16777216)]

/-- The byte of a one-bit operand. -/
def encodeFlag (b : Bool) : List Byte := if b then [1] else [0]

/-- The bytes of a `src` operand. -/
def encodeSrc : Src → List Byte
  | .imm bs => 0 :: encodeSeq bs
  | .out off n => 1 :: (encodeNat off ++ encodeNat n)

/-- The bytes of an `ST` row. -/
def encodeState (q : LexState) (c : Byte) : List Byte := [q.code.setWidth 8, c]

/-- The format and the bytes of an instruction. -/
def encode : Instr → Format × List Byte
  | .lexInit => (.cmd, [0x00])
  | .lexFeed bytes => (.cmd, 0x01 :: encodeSeq bytes)
  | .lexParse => (.cmd, [0x02])
  | .chkXor8 src => (.cmd, 0x10 :: encodeSrc src)
  | .chkCs8 src => (.cmd, 0x11 :: encodeSrc src)
  | .chkFletch8 src => (.cmd, 0x12 :: encodeSrc src)
  | .chkSum32 src => (.cmd, 0x13 :: encodeSrc src)
  | .chkXor32 src => (.cmd, 0x14 :: encodeSrc src)
  | .chkCrc24q src => (.cmd, 0x15 :: encodeSrc src)
  | .bfxUbits src start width le =>
    (.cmd, 0x20 :: (encodeSrc src ++ encodeNat start ++ encodeNat width ++ encodeFlag le))
  | .bfxSbits src start width le =>
    (.cmd, 0x21 :: (encodeSrc src ++ encodeNat start ++ encodeNat width ++ encodeFlag le))
  | .bfxGetbeu16 src off => (.cmd, 0x30 :: (encodeSrc src ++ encodeNat off))
  | .bfxGetbeu32 src off => (.cmd, 0x31 :: (encodeSrc src ++ encodeNat off))
  | .bfxGetbeu64 src off => (.cmd, 0x32 :: (encodeSrc src ++ encodeNat off))
  | .bfxGetbes16 src off => (.cmd, 0x33 :: (encodeSrc src ++ encodeNat off))
  | .bfxGetbes32 src off => (.cmd, 0x34 :: (encodeSrc src ++ encodeNat off))
  | .bfxGetbes64 src off => (.cmd, 0x35 :: (encodeSrc src ++ encodeNat off))
  | .bfxGetbef32 src off => (.cmd, 0x36 :: (encodeSrc src ++ encodeNat off))
  | .bfxGetbed64 src off => (.cmd, 0x37 :: (encodeSrc src ++ encodeNat off))
  | .bfxGetleu16 src off => (.cmd, 0x38 :: (encodeSrc src ++ encodeNat off))
  | .bfxGetleu32 src off => (.cmd, 0x39 :: (encodeSrc src ++ encodeNat off))
  | .bfxGetleu64 src off => (.cmd, 0x3A :: (encodeSrc src ++ encodeNat off))
  | .bfxGetles16 src off => (.cmd, 0x3B :: (encodeSrc src ++ encodeNat off))
  | .bfxGetles32 src off => (.cmd, 0x3C :: (encodeSrc src ++ encodeNat off))
  | .bfxGetles64 src off => (.cmd, 0x3D :: (encodeSrc src ++ encodeNat off))
  | .bfxGetlef32 src off => (.cmd, 0x3E :: (encodeSrc src ++ encodeNat off))
  | .bfxGetled64 src off => (.cmd, 0x3F :: (encodeSrc src ++ encodeNat off))
  | .gbComment => (.gb, [0x23])
  | .gbNmea => (.gb, [0x24])
  | .gbAis => (.gb, [0x21])
  | .gbJson => (.gb, [0x7B])
  | .gbUbx => (.gb, [0xB5])
  | .gbRtcm3 => (.gb, [0xD3])
  | .gbCasic => (.gb, [0xBA])
  | .gbAllystar => (.gb, [0xF1])
  | .gbSuperstar2 => (.gb, [0x01])
  | .gbNavcom => (.gb, [0x02])
  | .gbDle => (.gb, [0x10])
  | .gbZodiac => (.gb, [0xFF])
  | .gbSirf => (.gb, [0xA0])
  | .gbGreis => (.gb, [0x7E])
  | .gbItalk => (.gb, [0x3C])
  | .gbGeostar => (.gb, [0x50])
  | .gbAt => (.gb, [0x40])
  | .gbOther c => (.gb, [c])
  | .tkG => (.tk, [0x47])
  | .tkP => (.tk, [0x50])
  | .tkA => (.tk, [0x41])
  | .tkB => (.tk, [0x42])
  | .tkH => (.tk, [0x48])
  | .tkI => (.tk, [0x49])
  | .tkQ => (.tk, [0x51])
  | .tkS => (.tk, [0x53])
  | .tkT => (.tk, [0x54])
  | .tkW => (.tk, [0x57])
  | .tkY => (.tk, [0x59])
  | .tkOther c => (.tk, [c])
  | .stGroundState c => (.st, encodeState .groundState c)
  | .stCommentBody c => (.st, encodeState .commentBody c)
  | .stCommentRecognized c => (.st, encodeState .commentRecognized c)
  | .stNmeaDollar c => (.st, encodeState .nmeaDollar c)
  | .stNmeaLeadG c => (.st, encodeState .nmeaLeadG c)
  | .stNmeaLeadA c => (.st, encodeState .nmeaLeadA c)
  | .stNmeaLeadB c => (.st, encodeState .nmeaLeadB c)
  | .stNmeaLeadH c => (.st, encodeState .nmeaLeadH c)
  | .stNmeaLeadI c => (.st, encodeState .nmeaLeadI c)
  | .stNmeaLeadQ c => (.st, encodeState .nmeaLeadQ c)
  | .stNmeaLeadS c => (.st, encodeState .nmeaLeadS c)
  | .stNmeaLeadT c => (.st, encodeState .nmeaLeadT c)
  | .stNmeaLeadW c => (.st, encodeState .nmeaLeadW c)
  | .stNmeaLeadY c => (.st, encodeState .nmeaLeadY c)
  | .stNmeaVendorLead c => (.st, encodeState .nmeaVendorLead c)
  | .stNmeaPashrA c => (.st, encodeState .nmeaPashrA c)
  | .stNmeaPashrS c => (.st, encodeState .nmeaPashrS c)
  | .stNmeaPashrH c => (.st, encodeState .nmeaPashrH c)
  | .stNmeaBinaryBody c => (.st, encodeState .nmeaBinaryBody c)
  | .stNmeaBinaryCr c => (.st, encodeState .nmeaBinaryCr c)
  | .stNmeaLeaderEnd c => (.st, encodeState .nmeaLeaderEnd c)
  | .stNmeaCr c => (.st, encodeState .nmeaCr c)
  | .stNmeaRecognized c => (.st, encodeState .nmeaRecognized c)
  | .stNmeaBang c => (.st, encodeState .nmeaBang c)
  | .stAisLead1 c => (.st, encodeState .aisLead1 c)
  | .stJsonBody c => (.st, encodeState .jsonBody c)
  | .stJsonString c => (.st, encodeState .jsonString c)
  | .stJsonEscape c => (.st, encodeState .jsonEscape c)
  | .stJsonValue c => (.st, encodeState .jsonValue c)
  | .stJsonRecognized c => (.st, encodeState .jsonRecognized c)
  | .stUbxLeader1 c => (.st, encodeState .ubxLeader1 c)
  | .stUbxLeader2 c => (.st, encodeState .ubxLeader2 c)
  | .stUbxClassId c => (.st, encodeState .ubxClassId c)
  | .stUbxMessageId c => (.st, encodeState .ubxMessageId c)
  | .stUbxLength1 c => (.st, encodeState .ubxLength1 c)
  | .stUbxLength2 c => (.st, encodeState .ubxLength2 c)
  | .stUbxPayload c => (.st, encodeState .ubxPayload c)
  | .stUbxChecksumA c => (.st, encodeState .ubxChecksumA c)
  | .stUbxRecognized c => (.st, encodeState .ubxRecognized c)
  | .stAllyLeader1 c => (.st, encodeState .allyLeader1 c)
  | .stAllyLeader2 c => (.st, encodeState .allyLeader2 c)
  | .stAllyClassId c => (.st, encodeState .allyClassId c)
  | .stAllyMessageId c => (.st, encodeState .allyMessageId c)
  | .stAllyLength1 c => (.st, encodeState .allyLength1 c)
  | .stAllyLength2 c => (.st, encodeState .allyLength2 c)
  | .stAllyPayload c => (.st, encodeState .allyPayload c)
  | .stAllyChecksumA c => (.st, encodeState .allyChecksumA c)
  | .stAllyRecognized c => (.st, encodeState .allyRecognized c)
  | .stCasicLeader1 c => (.st, encodeState .casicLeader1 c)
  | .stCasicLeader2 c => (.st, encodeState .casicLeader2 c)
  | .stCasicLength1 c => (.st, encodeState .casicLength1 c)
  | .stCasicLength2 c => (.st, encodeState .casicLength2 c)
  | .stCasicClassId c => (.st, encodeState .casicClassId c)
  | .stCasicMessageId c => (.st, encodeState .casicMessageId c)
  | .stCasicPayload c => (.st, encodeState .casicPayload c)
  | .stCasicChecksum1 c => (.st, encodeState .casicChecksum1 c)
  | .stCasicChecksum2 c => (.st, encodeState .casicChecksum2 c)
  | .stCasicChecksum3 c => (.st, encodeState .casicChecksum3 c)
  | .stCasicRecognized c => (.st, encodeState .casicRecognized c)
  | .stGeostarLeader1 c => (.st, encodeState .geostarLeader1 c)
  | .stGeostarLeader2 c => (.st, encodeState .geostarLeader2 c)
  | .stGeostarLeader3 c => (.st, encodeState .geostarLeader3 c)
  | .stGeostarLeader4 c => (.st, encodeState .geostarLeader4 c)
  | .stGeostarMessageId1 c => (.st, encodeState .geostarMessageId1 c)
  | .stGeostarMessageId2 c => (.st, encodeState .geostarMessageId2 c)
  | .stGeostarLength1 c => (.st, encodeState .geostarLength1 c)
  | .stGeostarLength2 c => (.st, encodeState .geostarLength2 c)
  | .stGeostarPayload c => (.st, encodeState .geostarPayload c)
  | .stGeostarChecksum1 c => (.st, encodeState .geostarChecksum1 c)
  | .stGeostarChecksum2 c => (.st, encodeState .geostarChecksum2 c)
  | .stGeostarChecksum3 c => (.st, encodeState .geostarChecksum3 c)
  | .stGeostarRecognized c => (.st, encodeState .geostarRecognized c)
  | .stGreisId1 c => (.st, encodeState .greisId1 c)
  | .stGreisId2 c => (.st, encodeState .greisId2 c)
  | .stGreisLength1 c => (.st, encodeState .greisLength1 c)
  | .stGreisLength2 c => (.st, encodeState .greisLength2 c)
  | .stGreisLength3 c => (.st, encodeState .greisLength3 c)
  | .stGreisPayload c => (.st, encodeState .greisPayload c)
  | .stGreisRecognized c => (.st, encodeState .greisRecognized c)
  | .stRtcm3Leader1 c => (.st, encodeState .rtcm3Leader1 c)
  | .stRtcm3Length1 c => (.st, encodeState .rtcm3Length1 c)
  | .stRtcm3Length2 c => (.st, encodeState .rtcm3Length2 c)
  | .stRtcm3Payload c => (.st, encodeState .rtcm3Payload c)
  | .stRtcm3Crc1 c => (.st, encodeState .rtcm3Crc1 c)
  | .stRtcm3Crc2 c => (.st, encodeState .rtcm3Crc2 c)
  | .stRtcm3Recognized c => (.st, encodeState .rtcm3Recognized c)

/-! ## The words of the opcode table -/

/-- A word of the table as the bytes the decoder reads, first byte first, the operand bytes it has no bits for zero. -/
def tableBytes (nbits w : Nat) : List Byte :=
  (List.range ((nbits + 7) / 8)).map (fun k => BitVec.ofNat 8 (w >>> (8 * k))) ++ List.replicate 16 0

/-- The row the decoder reads from bytes in one format, leaving out the two `OTHER` rows, which match any byte. -/
def namedRow (f : Format) (bs : List Byte) : Option Instr :=
  match decode f bs with
  | .ok (.gbOther _, _) => none
  | .ok (.tkOther _, _) => none
  | .ok (i, _) => some i
  | .error _ => none

/-- The format and row of a word of the table. A word does not say its format, and the formats share codes (0x24 is
`GB.NMEA` and `ST.UBX_PAYLOAD`): the first format in the table's order that has a row for it is taken, `CMD` only
for words of at most 8 bits, which all its rows have; a word no row names is the ground byte of `GB.OTHER`
(log entry 13). -/
def tableRow (nbits w : Nat) : Option (Format × Instr) :=
  let bs := tableBytes nbits w
  match (if nbits ≤ 8 then namedRow .cmd bs else none) with
  | some i => some (.cmd, i)
  | none =>
    match namedRow .gb bs with
    | some i => some (.gb, i)
    | none =>
      match namedRow .tk bs with
      | some i => some (.tk, i)
      | none =>
        match namedRow .st bs with
        | some i => some (.st, i)
        | none =>
          match bs with
          | c :: _ => some (.gb, decodeGb c)
          | [] => none

/-- The instruction the decoder reads from a word of `spec/opcode_table.json` (see `tableRow`). -/
def decodeTableWord (nbits w : Nat) : Option Instr := (tableRow nbits w).map Prod.snd

end Sys2Proof
end

