-- ==== Sys2Proof/Machine/Fetch.lean ====
section
/-! DEFINITION. Where the next instruction comes from: the host's commands, or the position (`state`, `rp`) of the
automaton (`10_state.md` R26); and how a word of the opcode table is put there. -/

namespace Sys2Proof.Machine

/-- The instruction at the position (`state`, `rp`): the row of the byte the next iteration consumes, if the opcode table
has one. -/
def State.fetchStream (s : State) : Option Instr := decodeStream s.state (s.inByte s.rp)

/-- The answer to a command the decoder rejects: the status `ILLEGAL` and no other effect for a code outside the map
(`30_encoding.md` R93); the model's own refusal for operand bytes outside its own layout (log entry 2). -/
def rejectCommand (e : DecodeError) (s : State) : Outcome :=
  match e with
  | .illegalCommand => .next (s.withResult .illegal)
  | .truncated => .refused .malformedOperands
  | .badMarker => .refused .malformedOperands
  | .badSourceTag => .refused .malformedOperands
  | .badFlag => .refused .malformedOperands
  | .unusedState => .refused .malformedOperands

/-- `s` with a command put first in the host's sequence. -/
def State.placeCommand (s : State) (bs : List Byte) : State := { s with source := .host, port := bs :: s.port }

/-- `s` at the state `q` of the automaton within a `LEX.PARSE`, with `c` as the byte its next iteration consumes. -/
def State.placeByte (s : State) (q : LexState) (c : Byte) : State :=
  { s with source := .stream, state := q, inbuf := s.inbuf.put s.rp c, inlen := max s.inlen (s.rp + 1) }

/-- `s` with the instruction of a word of the opcode table where the next step fetches (log entry 14): a command at the
head of the host's sequence, a ground byte in `GROUND_STATE`, a talker byte in `NMEA_DOLLAR`, a state's row in that
state. -/
def State.placeTableWord (s : State) (nbits w : Nat) : State :=
  let bs := tableBytes nbits w
  match tableRow nbits w with
  | some (.cmd, _) => s.placeCommand bs
  | some (.gb, _) => s.placeByte .groundState (bs.getD 0 0)
  | some (.tk, _) => s.placeByte .nmeaDollar (bs.getD 0 0)
  | some (.st, _) => s.placeByte ((LexState.ofCode? ((bs.getD 0 0).setWidth 7)).getD .groundState) (bs.getD 1 0)
  | none => s.placeCommand bs

end Sys2Proof.Machine
end

