-- ==== Sys2Proof/Machine/Step.lean ====
section
/-! DEFINITION. The step: a command of the host, or, within a `LEX.PARSE` under way, one pass of its loop. -/

namespace Sys2Proof.Machine

/-- One step (log entry 1). From the host: the next command, decoded and executed; with none offered the instance is
inert and keeps its state (`60_exceptions.md` R389). Within a `LEX.PARSE`: the exhaustion test of `40_lexer_core.md`
R134, R135, then the iteration of the byte at the position (`state`, `rp`): its row, or, in a state of an open chain, which
has no row, the state's rule. -/
def step (s : State) : Host.Outcome State Fault Refusal :=
  match s.source with
  | .stream =>
    if s.rp = s.inlen then .next s.exhausted
    else
      match s.fetchStream with
      | some i => exec i s
      | none => iterate s
  | .host =>
    match s.port with
    | [] => .next s
    | p :: rest =>
      match decode .cmd p with
      | .ok (i, _) => exec i { s with port := rest }
      | .error e => rejectCommand e { s with port := rest }

/-- `s` with the instruction of a word of `spec/opcode_table.json` where `step` fetches its next instruction
(see `State.placeTableWord`). -/
def State.withFetchWord (s : State) (nbits w : Nat) : State := s.placeTableWord nbits w

end Sys2Proof.Machine
end

