-- ==== Sys2Proof/Safety.lean ====
section
/-! DEFINITION. What counts as a good state and a good run, in the terms the statements use: the spec's invariants over
one lexer instance, and the states an iteration leaves, each written out as one record of the state before it. -/

namespace Sys2Proof.Machine

/-! ## The invariants of an instance -/

/-- The states in which no candidate is under way: the ground state and the nine `_RECOGNIZED` states
(`10_state.md` R44). -/
def LexState.isIdle (q : LexState) : Bool :=
  q == .groundState || q == .commentRecognized || q == .nmeaRecognized || q == .jsonRecognized || q == .ubxRecognized ||
    q == .allyRecognized || q == .casicRecognized || q == .geostarRecognized || q == .greisRecognized ||
    q == .rtcm3Recognized

/-- The states of an open JSON candidate (`41_text_chains.md` R193). -/
def LexState.isJson (q : LexState) : Bool :=
  q == .jsonBody || q == .jsonString || q == .jsonEscape || q == .jsonValue

/-- The largest value `pending` takes in a state: the low length byte alone in the states that hold it, the digits read
so far in GREIS, and 4 * 65535 at most anywhere (`42_binary_chains.md` R234, R252, R268, R269, R278, R279, R285). -/
def LexState.pendingMax (q : LexState) : Nat :=
  if q == .ubxLength1 || q == .allyLength1 || q == .casicLength1 || q == .geostarLength1 then 255
  else if q == .greisLength1 then 3840
  else if q == .greisLength2 then 4080
  else if q == .rtcm3Length1 then 768
  else 262140

/-- `10_state.md` R25: `0 <= rp <= inlen <= IN_CAP`. -/
def State.pointersOk (s : State) : Prop := s.rp ≤ s.inlen ∧ s.inlen ≤ s.cfg.inCap

/-- The input buffer holds exactly the valid bytes `inbuf[0..inlen)`, in canonical form (`10_state.md` R23). -/
def State.inputOk (s : State) : Prop :=
  s.inbuf.wf = true ∧ ∀ i, (s.inbuf.byteAt? i).isSome = decide (i < s.inlen)

/-- The output slot (`10_state.md` R28(b), (c), R34): it holds exactly the packet and its NUL, in canonical form, no
longer than the capacities allow, and its type is never `BAD`. -/
def State.outputOk (s : State) : Prop :=
  s.outbuf.wf = true ∧ (∀ i, (s.outbuf.byteAt? i).isSome = decide (i ≤ s.outlen)) ∧
    s.outbuf.byteAt? s.outlen = some 0x00 ∧ s.outlen ≤ s.cfg.maxPacketLength ∧ s.outlen ≤ s.cfg.outCap - 1 ∧
    s.type ≠ .bad

/-- Canonical idle (`10_state.md` R44). -/
def State.idleOk (s : State) : Prop :=
  s.state.isIdle = true → s.pending = 0 ∧ s.jsonDepth = 0 ∧ s.rp = 0

/-- The counts stay in their range: `pending` (`10_state.md` R29) never exceeds what its state can have read,
`json_depth` is at least 1 inside a JSON candidate and at most the bytes consumed (`10_state.md` R32,
`41_text_chains.md` R194), and the GREIS countdown is positive where it is used (`42_binary_chains.md` R282). -/
def State.countsOk (s : State) : Prop :=
  s.pending ≤ s.state.pendingMax ∧ s.jsonDepth ≤ s.rp ∧ (s.state.isJson = true → 1 ≤ s.jsonDepth) ∧
    (s.state = .greisLength3 ∨ s.state = .greisPayload → 1 ≤ s.pending)

/-- The invariant of an instance whose configuration the spec's parameters allow. With the open chains off no state of
theirs is ever held (`10_state.md` R35). -/
structure State.Inv (s : State) : Prop where
  cfg : s.cfg.wf
  pointers : s.pointersOk
  input : s.inputOk
  output : s.outputOk
  idle : s.idleOk
  counts : s.countsOk
  baseline : s.state.isBranch = false

/-! ## Where a candidate stands -/

/-- The leader bytes a candidate may begin with in a state (`10_state.md` R26: the candidate begins at `inbuf[0]`);
`none` in the idle states, for GREIS, whose first byte is a test (`42_binary_chains.md` R277), and for the open chains,
whose frames are not given (R294, R295). -/
def LexState.leaders : LexState → Option (List Byte)
  | .commentBody => some [0x23]
  | .nmeaDollar | .nmeaLeadG | .nmeaLeadA | .nmeaLeadB | .nmeaLeadH | .nmeaLeadI | .nmeaLeadQ | .nmeaLeadS | .nmeaLeadT
  | .nmeaLeadW | .nmeaLeadY | .nmeaVendorLead | .nmeaPashrA | .nmeaPashrS | .nmeaPashrH | .nmeaBinaryBody
  | .nmeaBinaryCr => some [0x24]
  | .nmeaLeaderEnd | .nmeaCr => some [0x24, 0x21]
  | .nmeaBang | .aisLead1 => some [0x21]
  | .jsonBody | .jsonString | .jsonEscape | .jsonValue => some [0x7B]
  | .ubxLeader1 | .ubxLeader2 | .ubxClassId | .ubxMessageId | .ubxLength1 | .ubxLength2 | .ubxPayload
  | .ubxChecksumA => some [0xB5]
  | .allyLeader1 | .allyLeader2 | .allyClassId | .allyMessageId | .allyLength1 | .allyLength2 | .allyPayload
  | .allyChecksumA => some [0xF1]
  | .casicLeader1 | .casicLeader2 | .casicLength1 | .casicLength2 | .casicClassId | .casicMessageId | .casicPayload
  | .casicChecksum1 | .casicChecksum2 | .casicChecksum3 => some [0xBA]
  | .geostarLeader1 | .geostarLeader2 | .geostarLeader3 | .geostarLeader4 | .geostarMessageId1 | .geostarMessageId2
  | .geostarLength1 | .geostarLength2 | .geostarPayload | .geostarChecksum1 | .geostarChecksum2
  | .geostarChecksum3 => some [0x50]
  | .rtcm3Leader1 | .rtcm3Length1 | .rtcm3Length2 | .rtcm3Payload | .rtcm3Crc1 | .rtcm3Crc2 => some [0xD3]
  | .groundState | .commentRecognized | .nmeaRecognized | .jsonRecognized | .ubxRecognized | .allyRecognized
  | .casicRecognized | .geostarRecognized | .greisRecognized | .rtcm3Recognized | .greisId1 | .greisId2
  | .greisLength1 | .greisLength2 | .greisLength3 | .greisPayload | .branch _ _ => none

/-- How many bytes have been consumed when the automaton stands in a state: at least the number, and exactly that
many when the flag is set (the frame layouts of `30_encoding.md` R98 to R106). -/
def LexState.offset : LexState → Nat × Bool
  | .groundState | .commentRecognized | .nmeaRecognized | .jsonRecognized | .ubxRecognized | .allyRecognized
  | .casicRecognized | .geostarRecognized | .greisRecognized | .rtcm3Recognized => (0, true)
  | .commentBody | .jsonBody | .jsonString | .jsonEscape | .jsonValue => (1, false)
  | .nmeaDollar | .nmeaBang | .ubxLeader1 | .allyLeader1 | .casicLeader1 | .geostarLeader1 | .greisId1
  | .rtcm3Leader1 => (1, true)
  | .nmeaLeadG | .nmeaLeadA | .nmeaLeadB | .nmeaLeadH | .nmeaLeadI | .nmeaLeadQ | .nmeaLeadS | .nmeaLeadT | .nmeaLeadW
  | .nmeaLeadY | .nmeaVendorLead | .aisLead1 | .ubxLeader2 | .allyLeader2 | .casicLeader2 | .geostarLeader2
  | .greisId2 | .rtcm3Length1 => (2, true)
  | .nmeaPashrA | .ubxClassId | .allyClassId | .casicLength1 | .geostarLeader3 | .greisLength1
  | .rtcm3Length2 => (3, true)
  | .nmeaPashrS | .ubxMessageId | .allyMessageId | .casicLength2 | .geostarLeader4 | .greisLength2 => (4, true)
  | .nmeaPashrH | .ubxLength1 | .allyLength1 | .casicClassId | .geostarMessageId1 | .greisLength3 => (5, true)
  | .ubxLength2 | .allyLength2 | .casicMessageId | .geostarMessageId2 => (6, true)
  | .geostarLength1 => (7, true)
  | .geostarLength2 => (8, true)
  | .nmeaLeaderEnd => (3, false)
  | .nmeaCr => (4, false)
  | .nmeaBinaryBody => (6, false)
  | .nmeaBinaryCr => (7, false)
  | .rtcm3Payload | .rtcm3Crc1 => (4, false)
  | .rtcm3Crc2 => (5, false)
  | .greisPayload => (6, false)
  | .ubxPayload | .ubxChecksumA | .allyPayload | .allyChecksumA | .casicPayload | .casicChecksum1 => (7, false)
  | .casicChecksum2 => (8, false)
  | .casicChecksum3 => (9, false)
  | .geostarPayload | .geostarChecksum1 => (9, false)
  | .geostarChecksum2 => (10, false)
  | .geostarChecksum3 => (11, false)
  | .branch _ _ => (0, false)

/-- In the states of a declared-length chain from its complete length on: how many bytes besides the `pending` payload
bytes the frame still needs (the frame layouts of `30_encoding.md` R101 to R106). -/
def LexState.remaining : LexState → Option Nat
  | .ubxLength2 | .ubxPayload | .allyLength2 | .allyPayload => some 2
  | .ubxChecksumA | .allyChecksumA => some 1
  | .casicLength2 => some 6
  | .casicClassId => some 5
  | .casicMessageId | .casicPayload => some 4
  | .casicChecksum1 => some 3
  | .casicChecksum2 => some 2
  | .casicChecksum3 => some 1
  | .geostarLength2 | .geostarPayload => some 4
  | .geostarChecksum1 => some 3
  | .geostarChecksum2 => some 2
  | .geostarChecksum3 => some 1
  | .greisLength3 | .greisPayload => some 0
  | .rtcm3Length2 | .rtcm3Payload => some 3
  | .rtcm3Crc1 => some 2
  | .rtcm3Crc2 => some 1
  | _ => none

/-- The remainder modulo 4 of a whole frame's length in the chains of the word-oriented checksums
(`42_binary_chains.md` R262: `10 + L`, `L` a multiple of 4; R276: `12 + 4W`). -/
def LexState.wordPhase : LexState → Option Nat
  | .casicLength2 | .casicClassId | .casicMessageId | .casicPayload | .casicChecksum1 | .casicChecksum2
  | .casicChecksum3 => some 2
  | .geostarLength2 | .geostarPayload | .geostarChecksum1 | .geostarChecksum2 | .geostarChecksum3 => some 0
  | _ => none

/-- The trailer states of the declared-length chains (`00_scope.md` R19): the payload is counted down. -/
def LexState.isTrailer (q : LexState) : Bool :=
  q == .ubxChecksumA || q == .allyChecksumA || q == .casicChecksum1 || q == .casicChecksum2 || q == .casicChecksum3 ||
    q == .geostarChecksum1 || q == .geostarChecksum2 || q == .geostarChecksum3 || q == .rtcm3Crc1 || q == .rtcm3Crc2

/-- Where the candidate stands in its frame: it begins with its chain's leader, as many bytes are consumed as the
state's name says, a frame whose length is declared is no longer than `MAX_PACKET_LENGTH` (`40_lexer_core.md` R152),
and a frame whose checksum is word-oriented has a length that fits it (`20_memory.md` R67). -/
structure State.FrameOk (s : State) : Prop where
  leader : ∀ ls, s.state.leaders = some ls → s.inByte 0 ∈ ls
  atLeast : s.state.offset.1 ≤ s.rp
  exact : s.state.offset.2 = true → s.rp = s.state.offset.1
  declared : ∀ k, s.state.remaining = some k → s.rp + s.pending + k ≤ s.cfg.maxPacketLength
  trailer : s.state.isTrailer = true → s.pending = 0
  words : ∀ k r, s.state.remaining = some k → s.state.wordPhase = some r → (s.rp + s.pending + k) % 4 = r

/-- The states of the chains without a declared length: comment, NMEA, AIS and JSON (`40_lexer_core.md` R144). -/
def LexState.isText (q : LexState) : Bool := decide (1 ≤ q.code ∧ q.code ≤ 29)

/-! ## What an iteration leaves -/

/-- An iteration is defined: a byte is there to consume (`40_lexer_core.md` R136), and the stash, whose rules are a
parameter, is off (`10_state.md` R33). -/
def State.Ready (s : State) : Prop := s.cfg.stashEn = false ∧ s.rp < s.inlen

/-- The candidate including the byte the iteration consumes. -/
def State.nextCandidate (s : State) : List Byte := s.inRange 0 (s.rp + 1)

/-- The byte is consumed and the automaton is in `q` (`40_lexer_core.md` R136, R137); nothing else changes. -/
def State.afterGo (s : State) (q : LexState) : State :=
  { s with state := q, rp := s.rp + 1, counter := s.counter + 1 }

/-- The byte is consumed, `pending` is loaded, the automaton is in `q`; nothing else changes. -/
def State.afterLoad (s : State) (p : Nat) (q : LexState) : State :=
  { s with state := q, rp := s.rp + 1, counter := s.counter + 1, pending := p }

/-- The byte is consumed, `json_depth` is written, the automaton is in `q`; nothing else changes. -/
def State.afterDepth (s : State) (d : Nat) (q : LexState) : State :=
  { s with state := q, rp := s.rp + 1, counter := s.counter + 1, jsonDepth := d }

/-- A pushback to the ground state (`40_lexer_core.md` R138, R139): the byte is not consumed; an abandoned candidate is
discarded and `E_FRAMING` logged, and with no candidate nothing is discarded or logged. -/
def State.afterPushGround (s : State) : State :=
  if s.rp = 0 then { s with state := .groundState, pending := 0, jsonDepth := 0 }
  else
    { s with
      state := .groundState, pending := 0, jsonDepth := 0
      inbuf := s.inbuf.window s.rp s.inlen, inlen := s.inlen - s.rp, rp := 0
      log := s.log ++ [⟨.low, .framing⟩] }

/-- The byte is consumed and removed (`40_lexer_core.md` R140). -/
def State.afterDrop (s : State) (q : LexState) : State :=
  { s with
    state := q, counter := s.counter + 1
    inbuf := s.inbuf.window 1 s.inlen, inlen := s.inlen - 1, rp := 0 }

/-- The offer of a ground byte to the open RTCM2 sub-recognizer (`41_text_chains.md` R173, `42_binary_chains.md` R295): on
`NO_SYNC` the byte is dropped, on a sync or a message it is consumed and the automaton is in the RTCM2 branch; only the
sub-recognizer's own state is new besides. Which state of the branch is a parameter (log entry 7). -/
def State.afterRtcm2Offer (s : State) (c : Byte) : State :=
  match Config.rtcm2Step s.rtcm2 c with
  | (r, .noSync) => { s.afterDrop .groundState with rtcm2 := r }
  | (r, .sync) => { s.afterGo (.branch .rtcm2 (Config.rtcm2Entry .sync r)) with rtcm2 := r }
  | (r, .message) => { s.afterGo (.branch .rtcm2 (Config.rtcm2Entry .message r)) with rtcm2 := r }

/-- The declared length is over the maximum (`40_lexer_core.md` R141): everything buffered is discarded. -/
def State.afterCap (s : State) : State :=
  { s with
    state := .groundState, pending := 0, jsonDepth := 0, counter := s.counter + 1
    inbuf := [], inlen := 0, rp := 0
    log := s.log ++ [⟨.high, .length⟩], result := .parse .none 0 true, source := .host }

/-- The candidate, with the byte consumed, is discarded by an event that ends `LEX.PARSE` with the tag `BAD`
(`40_lexer_core.md` R144, R145). -/
def State.afterReject (s : State) (e : LogEntry) (cap : Bool) : State :=
  { s with
    state := .groundState, pending := 0, jsonDepth := 0, counter := s.counter + 1
    inbuf := s.inbuf.window (s.rp + 1) s.inlen, inlen := s.inlen - (s.rp + 1), rp := 0
    log := s.log ++ [e], result := .parse .bad 0 cap, source := .host }

/-- The candidate is accepted (`40_lexer_core.md` R143): its first `alen` bytes and a NUL are the output slot. -/
def State.afterAccept (s : State) (q : LexState) (ty : PacketType) (alen : Nat) : State :=
  { s with
    state := q, pending := 0, jsonDepth := 0, counter := s.counter + 1
    inbuf := s.inbuf.window (s.rp + 1) s.inlen, inlen := s.inlen - (s.rp + 1), rp := 0
    outbuf := (s.outbuf.writeBytes 0 (s.inRange 0 alen ++ [0x00])).window 0 (alen + 1), outlen := alen, type := ty
    result := .parse ty alen false, source := .host }

/-- A candidate that its chain accepts with `alen` bytes, unless it is too long (`40_lexer_core.md` R142 to R144). -/
def State.afterPass (s : State) (q : LexState) (ty : PacketType) (alen : Nat) : State :=
  if s.cfg.maxPacketLength < alen ∨ s.cfg.outCap - 1 < alen then s.afterReject ⟨.high, .oversize⟩ true
  else s.afterAccept q ty alen

/-- A candidate that fails its validation (`40_lexer_core.md` R145). -/
def State.afterBad (s : State) : State := s.afterReject ⟨.low, .badCheck⟩ false

/-- The end of a validation pass that entered `q` (`40_lexer_core.md` R142). -/
def State.afterVerdict (s : State) (q : LexState) : Verdict → State
  | .accept ty alen => s.afterPass q ty alen
  | .bad => s.afterBad

/-- An iteration in a state of an open chain (`42_binary_chains.md` R294, R295): the move the parameter makes, which is one
of the five actions (`40_lexer_core.md` R150) with the counts it loads. -/
def State.afterBranch (s : State) (ch : OpenChain) (k : BranchState) (c : Byte) : State :=
  let m := Config.branchRules ch k ⟨c, s.nextCandidate, s.pending, s.jsonDepth, s.cfg⟩
  let u := { s with pending := m.pending, jsonDepth := m.jsonDepth }
  match m.act with
  | .go j => u.afterGo (.branch ch j)
  | .push none => u.afterPushGround
  | .push (some j) => { u with state := .branch ch j }
  | .drop none => u.afterDrop .groundState
  | .drop (some j) => u.afterDrop (.branch ch j)
  | .cap => u.afterCap
  | .recog j => u.afterVerdict (.branch ch j) (validateBranch ch j s.nextCandidate)

/-- `Countdown` (`40_lexer_core.md` R149): the zero test comes before the decrement. -/
def State.afterCountdown (s : State) (pay trailer : LexState) : State :=
  if s.pending = 0 then s.afterGo trailer else s.afterLoad (s.pending - 1) pay

/-- A leader state's test of the byte (`42_binary_chains.md` R230(a)): go on, or push back to the ground state. -/
def State.afterTest (s : State) (ok : Bool) (q : LexState) : State := if ok then s.afterGo q else s.afterPushGround

/-- The packet types of an open chain (`10_state.md` R34, R36; `42_binary_chains.md` R295). -/
def OpenChain.types : OpenChain → List PacketType
  | .superstar2 => [.superstar2]
  | .navcom => [.navcom]
  | .dle => [.tsip, .evermore, .garmin]
  | .zodiac => [.zodiac]
  | .sirf => [.sirf, .skytraq]
  | .italk => [.italk]
  | .at => [.tnt, .garmintxt, .oncore]
  | .rtcm2 => [.rtcm2]

/-- The packet types each recognition delivers (`10_state.md` R35, `41_text_chains.md` R187). -/
def Recog.types : Recog → List PacketType
  | .comment => [.comment]
  | .nmea => [.nmea, .ais]
  | .json => [.json]
  | .ubx => [.ubx]
  | .allystar => [.allystar]
  | .casic => [.casic]
  | .geostar => [.geostar]
  | .greis => [.greis]
  | .rtcm3 => [.rtcm3]
  | .branch ch _ => ch.types

/-! ## Frames -/

/-- The frame of UBX (leader B5 62) and ALLYSTAR (leader F1 D9) (`30_encoding.md` R101, R102). -/
def fletcherFrame (l1 l2 cls id : Byte) (payload : List Byte) : List Byte :=
  let body := [cls, id, BitVec.ofNat 8 payload.length, BitVec.ofNat 8 (payload.length / 256)] ++ payload
  [l1, l2] ++ body ++ [(fletch8 body).1, (fletch8 body).2]

/-- The CASIC frame of a payload whose length is a multiple of 4 (`30_encoding.md` R103). -/
def casicFrame (cls id : Byte) (payload : List Byte) : List Byte :=
  let span := [BitVec.ofNat 8 payload.length, BitVec.ofNat 8 (payload.length / 256), cls, id] ++ payload
  [0xBA, 0xCE] ++ span ++ le32Bytes ((sum32 span).getD 0)

/-- The GEOSTAR frame of a payload whose length is a multiple of 4 (`30_encoding.md` R104). -/
def geostarFrame (idLow idHigh : Byte) (payload : List Byte) : List Byte :=
  let head := [0x50, 0x53, 0x47, 0x47, idLow, idHigh, BitVec.ofNat 8 (payload.length / 4),
    BitVec.ofNat 8 (payload.length / 4 / 256)] ++ payload
  head ++ le32Bytes ((xor32 head).getD 0)

/-- The opening GREIS frame, ID `~` and a second byte, whose body ends in its checksum (`30_encoding.md` R105). -/
def greisFrame (id2 : Byte) (payload : List Byte) : List Byte :=
  let n := payload.length + 1
  let head := [0x7E, id2, hexChar (n / 256), hexChar (n / 16 % 16), hexChar (n % 16)] ++ payload
  head ++ [cs8 head]

/-- The RTCM3 frame (`30_encoding.md` R106). -/
def rtcm3Frame (payload : List Byte) : List Byte :=
  let head := [0xD3, BitVec.ofNat 8 (payload.length / 256), BitVec.ofNat 8 payload.length] ++ payload
  head ++ be24 (crc24q head)

/-- An NMEA sentence with its checksum, without the line end (`30_encoding.md` R98). -/
def nmeaSentence (body : List Byte) : List Byte := 0x24 :: body ++ 0x2A :: hexPair (xor8 body)

/-- A byte of an NMEA body (`30_encoding.md` R98, `41_text_chains.md` R184). -/
def isNmeaText (c : Byte) : Bool := isPrintable c && c != 0x24 && c != 0x7B

/-- No candidate is under way and the buffered bytes are a frame and what follows it. `GREIS_RECOGNIZED` is left out:
there any byte 0x30 to 0x7E but the brace begins a GREIS message (`42_binary_chains.md` R283). -/
structure State.StandsAt (s : State) (frame rest : List Byte) : Prop where
  inv : s.Inv
  idle : s.state.isIdle = true
  notGreis : s.state ≠ .greisRecognized
  bytes : s.inRange 0 s.inlen = frame ++ rest

/-- The state `t` after a `LEX.PARSE` from `s` that delivered `packet` out of `frame` and left `rest` buffered
(`40_lexer_core.md` R143): nothing logged, `counter` advanced by the frame's length. -/
structure State.Delivered (s t : State) (q : LexState) (ty : PacketType) (packet frame rest : List Byte) : Prop where
  result : t.result = .parse ty packet.length false
  state : t.state = q
  slot : t.outlen = packet.length ∧ t.type = ty
  content : t.outRange 0 packet.length = packet ∧ t.outByte packet.length = 0x00
  input : t.inRange 0 t.inlen = rest ∧ t.rp = 0
  log : t.log = s.log
  counter : t.counter = s.counter + BitVec.ofNat 64 frame.length
  idle : t.pending = 0 ∧ t.jsonDepth = 0 ∧ t.cfg = s.cfg ∧ t.source = .host

end Sys2Proof.Machine
end

