-- ==== Sys2Proof/Certificates/Slice0/Obligations.lean ====
section
/-! DEFINITION. The statements about the machine. In a statement about an iteration, `s.Ready` says that an iteration is
defined (`40_lexer_core.md` R136): a byte is there to consume, and the stash, whose rules are a parameter (R33), is off;
`OpenFeatures` says what an iteration does with it on.
The states an iteration leaves (`State.afterGo` and its companions) are whole records: every register they do not name
keeps its value and, where they do not name a buffer, every byte of it does too. Bytes outside the valid content of a
buffer are unspecified (`20_memory.md` R78), which the model represents by not listing them (log entry 9). -/

open Sys2Proof Sys2Proof.Machine

/-! ## Reset and the LEX commands -/

/-- `10_state.md` R42: the value of every state element after reset, and that reset is what `LEX.INIT` performs. -/
def Obligations.ResetValues : Prop :=
  State.reset.state = .groundState ∧ State.reset.inlen = 0 ∧ State.reset.rp = 0 ∧ State.reset.outlen = 0 ∧
    State.reset.type = .none ∧ State.reset.outByte 0 = 0x00 ∧ State.reset.pending = 0 ∧ State.reset.counter = 0 ∧
    State.reset.jsonDepth = 0 ∧ State.reset.chunkRem = 0 ∧ State.reset.stash = [] ∧ State.reset.stashlen = 0 ∧
    State.reset.cfg = Config.baseline ∧ ∃ r, exec .lexInit State.reset = .next { State.reset with result := r }

/-- The machine right after reset meets both invariants the steps keep. -/
def Obligations.ResetMeetsInvariants : Prop := State.reset.Inv ∧ State.reset.FrameOk

/-- `40_lexer_core.md` R131: `LEX.INIT` from any state, and the `LEX.PARSE` after it. The hardwired registers, the log and
the host's own sequence keep their values. -/
def Obligations.InitPerformsReset : Prop :=
  ∀ s : State, ∃ t, exec .lexInit s = .next t ∧
    t.state = .groundState ∧ t.inlen = 0 ∧ t.rp = 0 ∧ t.outlen = 0 ∧ t.type = .none ∧ t.outByte 0 = 0x00 ∧
    t.pending = 0 ∧ t.counter = 0 ∧ t.jsonDepth = 0 ∧ t.chunkRem = 0 ∧ t.result = .none ∧
    (s.cfg.stashEn = true → t.stash = [] ∧ t.stashlen = 0) ∧
    (s.cfg.stashEn = false → t.stash = s.stash ∧ t.stashlen = s.stashlen) ∧
    (s.cfg.chainEn.getLsbD 17 = true → t.rtcm2 = Config.rtcm2Reset) ∧
    (s.cfg.chainEn.getLsbD 17 = false → t.rtcm2 = s.rtcm2) ∧
    t.cfg = s.cfg ∧ t.log = s.log ∧ t.port = s.port ∧ t.source = s.source ∧ encode .lexInit = (.cmd, [0x00]) ∧
    (0 < s.cfg.inCap → ∃ u, exec .lexParse t = .next u ∧ u.result = .parse .none 0 false)

/-- `40_lexer_core.md` R133: `LEX.FEED` takes as many bytes as fit, appends them, returns their count, and changes no
register but `inlen` and the buffer. -/
def Obligations.FeedAppendsBytes : Prop :=
  ∀ (s : State) (bytes : List Byte), ∃ t, exec (.lexFeed bytes) s = .next t ∧
    t.result = .count (min bytes.length (s.cfg.inCap - s.inlen)) ∧
    t.inlen = s.inlen + min bytes.length (s.cfg.inCap - s.inlen) ∧
    (∀ i, i < min bytes.length (s.cfg.inCap - s.inlen) → t.inByte (s.inlen + i) = bytes.getD i 0) ∧
    (∀ i, i < s.inlen → t.inByte i = s.inByte i) ∧
    t = { s with inbuf := t.inbuf, inlen := t.inlen, result := t.result } ∧
    (encode (.lexFeed bytes)).2.head? = some 0x01

/-- `40_lexer_core.md` R135: `LEX.PARSE` with every buffered byte consumed, on a full buffer and otherwise. -/
def Obligations.ParseOnExhaustedBuffer : Prop :=
  ∀ s : State, s.rp = s.inlen →
    (s.inlen = s.cfg.inCap → exec .lexParse s = .next
      { s with
        state := .groundState, pending := 0, jsonDepth := 0, inbuf := [], inlen := 0, rp := 0
        log := s.log ++ [⟨.high, .full⟩], result := .parse .none 0 true, source := .host }) ∧
    (s.inlen ≠ s.cfg.inCap → exec .lexParse s = .next { s with result := .parse .none 0 false, source := .host })

/-- `40_lexer_core.md` R134, `70_reset_and_hazards.md` R422: `LEX.PARSE` always ends with a result, within three
iterations a byte and the final test, and is what its iterations, stepped one by one, amount to. -/
def Obligations.ParseIsItsIterations : Prop :=
  ∀ s : State, s.Inv → ∃ t k, exec .lexParse s = .next t ∧
    k ≤ 3 * (s.inlen - s.rp) + 1 ∧ Host.Core.run Sys2Proof.core k { s with source := .stream } = .next t ∧
    t.source = .host ∧ ∃ tag n cap, t.result = .parse tag n cap

/-- `40_lexer_core.md` R151: the possible results of `LEX.PARSE` and the state after each. -/
def Obligations.ParseResults : Prop :=
  ∀ s t : State, s.Inv → s.FrameOk → exec .lexParse s = .next t →
    (∃ r ty, t.result = .parse ty t.outlen false ∧ ty ∈ Recog.types r ∧ 0 < t.outlen ∧ t.type = ty ∧
      t.state = r.state) ∨
    (t.result = .parse .bad 0 false ∧ t.state = .groundState) ∨
    (t.result = .parse .bad 0 true ∧ t.state = .groundState) ∨
    (t.result = .parse .none 0 false ∧ t.rp = t.inlen) ∨
    (t.result = .parse .none 0 true ∧ t.state = .groundState ∧ t.inlen = 0)

/-- `20_memory.md` R76: a `LEX.PARSE` that ended in a fragment resumes: feeding more bytes and parsing again gives what
feeding them before the first parse gives, provided the feed is not cut short. `FrameOk`, which steps keep, rules out
the states no run reaches in which the AIS address test would read a byte that is not there. -/
def Obligations.ResumeAfterFragment : Prop :=
  ∀ (s t u v : State) (bytes : List Byte), s.Inv → s.FrameOk → s.inlen + bytes.length ≤ s.cfg.inCap →
    exec .lexParse s = .next t → t.result = .parse .none 0 false →
    exec (.lexFeed bytes) t = .next u → exec (.lexFeed bytes) s = .next v →
    exec .lexParse u = exec .lexParse v

/-- `60_exceptions.md` R386: after a `LEX.PARSE` that does not report a capacity violation, `counter` has advanced by the
number of bytes consumed for good. -/
def Obligations.CounterCountsConsumedBytes : Prop :=
  ∀ s t : State, s.Inv → exec .lexParse s = .next t → t.result ≠ .parse .none 0 true →
    t.counter = s.counter + BitVec.ofNat 64 ((s.inlen - s.rp) - (t.inlen - t.rp))

/-- `40_lexer_core.md` R149: a payload cut short. With no more unconsumed bytes than the countdown (fewer, for GREIS, whose
last payload byte completes the frame), `LEX.PARSE` counts them down, never below zero, and rests in the payload
state with the fragment result. -/
def Obligations.TruncatedPayloadWaits : Prop :=
  ∀ (s : State) (q pay : LexState),
    (q, pay) ∈ [(LexState.ubxLength2, LexState.ubxPayload), (.ubxPayload, .ubxPayload),
      (.allyLength2, .allyPayload), (.allyPayload, .allyPayload), (.casicMessageId, .casicPayload),
      (.casicPayload, .casicPayload), (.geostarLength2, .geostarPayload), (.geostarPayload, .geostarPayload),
      (.greisLength3, .greisPayload), (.greisPayload, .greisPayload), (.rtcm3Length2, .rtcm3Payload),
      (.rtcm3Payload, .rtcm3Payload)] →
    s.cfg.stashEn = false → s.state = q → s.rp < s.inlen → s.inlen ≠ s.cfg.inCap →
    s.inlen - s.rp ≤ s.pending → (pay = .greisPayload → s.inlen - s.rp < s.pending) →
    exec .lexParse s = .next
      { s with
        state := pay, rp := s.inlen, pending := s.pending - (s.inlen - s.rp)
        counter := s.counter + BitVec.ofNat 64 (s.inlen - s.rp)
        result := .parse .none 0 false, source := .host }

/-! ## Frames in, packets out -/

/-- UBX and ALLYSTAR frames (`30_encoding.md` R101, R102) are delivered whole (`42_binary_chains.md` R231 to R250). -/
def Obligations.FletcherFramesDelivered : Prop :=
  ∀ (s : State) (cls id : Byte) (payload rest : List Byte), payload.length < 65536 →
    payload.length + 8 ≤ s.cfg.maxPacketLength →
    (s.cfg.chainEn.getLsbD 4 = true → s.StandsAt (fletcherFrame 0xB5 0x62 cls id payload) rest →
      ∃ t, exec .lexParse s = .next t ∧ s.Delivered t .ubxRecognized .ubx (fletcherFrame 0xB5 0x62 cls id payload)
        (fletcherFrame 0xB5 0x62 cls id payload) rest) ∧
    (s.cfg.chainEn.getLsbD 7 = true → s.StandsAt (fletcherFrame 0xF1 0xD9 cls id payload) rest →
      ∃ t, exec .lexParse s = .next t ∧ s.Delivered t .allyRecognized .allystar
        (fletcherFrame 0xF1 0xD9 cls id payload) (fletcherFrame 0xF1 0xD9 cls id payload) rest)

/-- CASIC and GEOSTAR frames (`30_encoding.md` R103, R104) are delivered whole (`42_binary_chains.md` R251 to R276). -/
def Obligations.WordFramesDelivered : Prop :=
  ∀ (s : State) (x y : Byte) (payload rest : List Byte), payload.length % 4 = 0 →
    (s.cfg.chainEn.getLsbD 6 = true → payload.length < 65536 → payload.length + 10 ≤ s.cfg.maxPacketLength →
      s.StandsAt (casicFrame x y payload) rest →
      ∃ t, exec .lexParse s = .next t ∧
        s.Delivered t .casicRecognized .casic (casicFrame x y payload) (casicFrame x y payload) rest) ∧
    (s.cfg.chainEn.getLsbD 15 = true → payload.length / 4 < 65536 →
      payload.length + 12 ≤ s.cfg.maxPacketLength → s.StandsAt (geostarFrame x y payload) rest →
      ∃ t, exec .lexParse s = .next t ∧
        s.Delivered t .geostarRecognized .geostar (geostarFrame x y payload) (geostarFrame x y payload) rest)

/-- RTCM3 and opening GREIS frames (`30_encoding.md` R105, R106) are delivered whole (`42_binary_chains.md` R277 to
R292). -/
def Obligations.Rtcm3AndGreisFramesDelivered : Prop :=
  ∀ (s : State) (payload rest : List Byte),
    (s.cfg.chainEn.getLsbD 5 = true → payload.length < 1024 → payload.length + 6 ≤ s.cfg.maxPacketLength →
      s.StandsAt (rtcm3Frame payload) rest →
      ∃ t, exec .lexParse s = .next t ∧
        s.Delivered t .rtcm3Recognized .rtcm3 (rtcm3Frame payload) (rtcm3Frame payload) rest) ∧
    (∀ id2, s.cfg.chainEn.getLsbD 13 = true → isGreisId id2 = true → payload.length < 4095 →
      payload.length + 6 ≤ s.cfg.maxPacketLength → s.StandsAt (greisFrame id2 payload) rest →
      ∃ t, exec .lexParse s = .next t ∧
        s.Delivered t .greisRecognized .greis (greisFrame id2 payload) (greisFrame id2 payload) rest)

/-- An NMEA sentence with its checksum and either line end is delivered without the line end (`41_text_chains.md` R177 to
R187). -/
def Obligations.NmeaSentenceDelivered : Prop :=
  ∀ (s : State) (x y : Byte) (text eol rest : List Byte), s.cfg.chainEn.getLsbD 1 = true →
    x ∈ Config.talkerFirsts → (∃ p ∈ s.cfg.talker2, p.1 = x ∧ y ∈ p.2) → text.all isNmeaText = true →
    (eol = [0x0A] ∨ eol = [0x0D, 0x0A]) → text.length + 6 ≤ s.cfg.maxPacketLength →
    s.StandsAt (nmeaSentence (x :: y :: text) ++ eol) rest →
    ∃ t, exec .lexParse s = .next t ∧
      s.Delivered t .nmeaRecognized .nmea (nmeaSentence (x :: y :: text)) (nmeaSentence (x :: y :: text) ++ eol) rest

/-! ## Invariants and whole-machine rules -/

/-- Every step keeps the invariant of an instance: the pointers in order (`10_state.md` R25), the buffers in canonical
form holding exactly their valid content, the output slot NUL-terminated and in bounds (R28), canonical idle (R44), the
counts in range (R29, R32). -/
def Obligations.StepKeepsInv : Prop := ∀ s t : State, s.Inv → step s = .next t → t.Inv

/-- Every step keeps the place of the candidate in its frame: it begins with its chain's leader at `inbuf[0]`
(`10_state.md` R26), and a declared length passed the capacity test (`40_lexer_core.md` R152). -/
def Obligations.StepKeepsFrame : Prop := ∀ s t : State, s.Inv → s.FrameOk → step s = .next t → t.FrameOk

/-- `40_lexer_core.md` R146: at most three iterations pass before a byte is consumed for good or the command ends. -/
def Obligations.ThreeIterationsConsume : Prop :=
  ∀ s : State, s.Inv → s.source = .stream → s.rp < s.inlen →
    ∃ k t, 1 ≤ k ∧ k ≤ 3 ∧ Host.Core.run Sys2Proof.core k s = .next t ∧
      (t.source = .host ∨ t.inlen - t.rp < s.inlen - s.rp)

/-- `10_state.md` R28(a), R31, R36, R37: no instruction but `LEX.INIT` writes the output slot, except one that accepts a
packet, which returns that packet's type and length, the slot's; none writes the hardwired registers; and none but
`LEX.INIT` writes `chunk_rem`. Two clauses are the model's own choice and no rule's: that the stash, whose rules
`10_state.md` R33 leaves open, is written by `LEX.INIT` and, with `CFG.STASH_EN` on, by the iterations alone (log entry 8),
and that none changes the model's port (log entry 2). With the stash on its rules may also move the automaton on from
the recognised state. -/
def Obligations.WritersOfTheSlotAndRegisters : Prop :=
  ∀ (i : Instr) (s t : State), exec i s = .next t →
    t.cfg = s.cfg ∧ t.port = s.port ∧
    (i ≠ .lexInit → t.chunkRem = s.chunkRem ∧
      (s.cfg.stashEn = false ∨ ((encode i).1 = .cmd ∧ i ≠ .lexParse) →
        t.stash = s.stash ∧ t.stashlen = s.stashlen) ∧
      ((t.outbuf = s.outbuf ∧ t.outlen = s.outlen ∧ t.type = s.type) ∨
        (t.result = .parse t.type t.outlen false ∧ ∃ r, t.type ∈ Recog.types r ∧
          (s.cfg.stashEn = false → t.state = r.state))))

/-- `60_exceptions.md` R379, R383: a step within a `LEX.PARSE` logs at most one event, with the severity of R378. An event
that ends the command hands the machine back to the host with its result; `E_FRAMING` does neither. -/
def Obligations.OneEventPerIteration : Prop :=
  ∀ s t : State, s.source = .stream → step s = .next t →
    (t.log = s.log ∨ ∃ e : Event, t.log = s.log ++ [⟨e.severity, e⟩] ∧
      (∀ tag cap, e.ends = some (tag, cap) → t.result = .parse tag 0 cap ∧ t.source = .host) ∧
      (e.ends = none → t.source = .stream ∧ t.result = s.result))

/-- `60_exceptions.md` R378, R380: what each of the five events records, discards, returns and leaves; nothing else of the
instance changes. -/
def Obligations.EventTable : Prop :=
  ∀ (s : State) (e : Event),
    (s.raise e).state = .groundState ∧ (s.raise e).pending = 0 ∧ (s.raise e).jsonDepth = 0 ∧ (s.raise e).rp = 0 ∧
    s.raise e =
      { s with
        state := .groundState, pending := 0, jsonDepth := 0, rp := 0
        inbuf := (s.raise e).inbuf, inlen := (s.raise e).inlen
        log := s.log ++ [⟨e.severity, e⟩], result := (s.raise e).result, source := (s.raise e).source } ∧
    (e = .framing ∨ e = .badCheck ∨ e = .oversize → (s.raise e).inlen = s.inlen - s.rp ∧
      ∀ i, i < s.inlen - s.rp → (s.raise e).inbuf.byteAt? i = s.inbuf.byteAt? (s.rp + i)) ∧
    (e = .length ∨ e = .full → (s.raise e).inlen = 0) ∧
    (e = .framing → e.severity = .low ∧ (s.raise e).result = s.result ∧ (s.raise e).source = s.source) ∧
    (e = .badCheck → e.severity = .low ∧ (s.raise e).result = .parse .bad 0 false ∧ (s.raise e).source = .host) ∧
    (e = .length ∨ e = .full → e.severity = .high ∧ (s.raise e).result = .parse .none 0 true ∧
      (s.raise e).source = .host) ∧
    (e = .oversize → e.severity = .high ∧ (s.raise e).result = .parse .bad 0 true ∧ (s.raise e).source = .host)

/-- `40_lexer_core.md` R144, `20_memory.md` R67: what the length tests of the declared-length chains guarantee. None of them
can raise `E_OVERSIZE`, and the word-oriented checksums are only asked for on lengths they are defined on. -/
def Obligations.DeclaredLengthGuarantees : Prop :=
  ∀ s : State, s.Inv → s.FrameOk →
    (∀ t, s.source = .stream → step s = .next t → t.log = s.log ++ [⟨.high, .oversize⟩] → s.state.isText = true) ∧
    (s.state = .casicChecksum3 →
      (sum32 ((s.nextCandidate.take (s.nextCandidate.length - 4)).drop 2)).isSome = true) ∧
    (s.state = .geostarChecksum3 → (xor32 s.nextCandidate).isSome = true)

/-- `40_lexer_core.md` R147: `$` and `{` are pushed back to the ground state, which sees the same byte next, by every
`_RECOGNIZED` state but the one whose own leader the byte is, and by every NMEA and AIS state but the two of the binary
body. -/
def Obligations.NewPacketStartsAreOffered : Prop :=
  ∀ (s : State) (q : LexState) (c : Byte), s.Ready → c = 0x24 ∨ c = 0x7B →
    (∀ p ∈ s.cfg.talker2, c ∉ p.2) → (∀ p ∈ s.cfg.aisPrefix, p.1 ≠ c ∧ p.2 ≠ c) →
    q ∈ [LexState.commentRecognized, .nmeaDollar, .nmeaLeadG, .nmeaLeadA, .nmeaLeadB, .nmeaLeadH, .nmeaLeadI,
      .nmeaLeadQ, .nmeaLeadS, .nmeaLeadT, .nmeaLeadW, .nmeaLeadY, .nmeaVendorLead, .nmeaPashrA, .nmeaPashrS,
      .nmeaPashrH, .nmeaLeaderEnd, .nmeaCr, .nmeaRecognized, .nmeaBang, .aisLead1, .jsonRecognized, .ubxRecognized,
      .allyRecognized, .casicRecognized, .geostarRecognized, .greisRecognized, .rtcm3Recognized] →
    ¬(q = .nmeaRecognized ∧ c = 0x24 ∧ s.cfg.chainEn.getLsbD 1 = true) → ¬(q = .jsonRecognized ∧ c = 0x7B) →
    (stateRow q c).map (fun i => exec i s) = some (.next s.afterPushGround) ∧
      (s.inbuf.byteAt? s.rp = some c → s.afterPushGround.state = .groundState ∧ s.afterPushGround.rp = 0 ∧
        s.afterPushGround.inByte 0 = c)

/-! ## The ground state and the text chains -/

/-- `41_text_chains.md` R171: in the ground state the leader of an enabled chain begins the candidate and enters the chain. -/
def Obligations.GroundLeadersEnterChains : Prop :=
  ∀ s : State, s.Ready →
    (∀ p ∈ ([(.gbComment, 0x23, 0, .commentBody), (.gbNmea, 0x24, 1, .nmeaDollar), (.gbAis, 0x21, 2, .nmeaBang),
        (.gbUbx, 0xB5, 4, .ubxLeader1), (.gbRtcm3, 0xD3, 5, .rtcm3Leader1), (.gbCasic, 0xBA, 6, .casicLeader1),
        (.gbAllystar, 0xF1, 7, .allyLeader1), (.gbGreis, 0x7E, 13, .greisId1),
        (.gbGeostar, 0x50, 15, .geostarLeader1)] : List (Instr × Byte × Nat × LexState)),
      s.cfg.chainEn.getLsbD p.2.2.1 = true →
        exec p.1 s = .next (s.afterGo p.2.2.2) ∧ exec (.stGroundState p.2.1) s = .next (s.afterGo p.2.2.2)) ∧
    (s.cfg.chainEn.getLsbD 3 = true →
      exec .gbJson s = .next (s.afterDepth 1 .jsonBody) ∧
        exec (.stGroundState 0x7B) s = .next (s.afterDepth 1 .jsonBody))

/-- `41_text_chains.md` R172, without the RTCM2 sub-recognizer: any other byte, and every leader of a disabled chain, is
consumed and removed, and nothing is logged. -/
def Obligations.GroundDropsOtherBytes : Prop :=
  ∀ s : State, s.Ready → s.cfg.chainEn.getLsbD 17 = false →
    (∀ c, exec (.gbOther c) s = .next (s.afterDrop .groundState)) ∧
    (∀ c, c ∉ groundLeaders → exec (.stGroundState c) s = .next (s.afterDrop .groundState)) ∧
    (∀ p ∈ ([(.gbComment, 0x23, 0), (.gbNmea, 0x24, 1), (.gbAis, 0x21, 2), (.gbJson, 0x7B, 3), (.gbUbx, 0xB5, 4),
        (.gbRtcm3, 0xD3, 5), (.gbCasic, 0xBA, 6), (.gbAllystar, 0xF1, 7), (.gbSuperstar2, 0x01, 8),
        (.gbNavcom, 0x02, 9), (.gbDle, 0x10, 10), (.gbZodiac, 0xFF, 11), (.gbSirf, 0xA0, 12), (.gbGreis, 0x7E, 13),
        (.gbItalk, 0x3C, 14), (.gbGeostar, 0x50, 15), (.gbAt, 0x40, 16)] : List (Instr × Byte × Nat)),
      s.cfg.chainEn.getLsbD p.2.2 = false →
        exec p.1 s = .next (s.afterDrop .groundState) ∧
          exec (.stGroundState p.2.1) s = .next (s.afterDrop .groundState))

/-- `30_encoding.md` R110(a), `41_text_chains.md` R172, R173, `42_binary_chains.md` R294, R295, `10_state.md` R33: what the
features with open rules do when they are switched on, their rules being parameters without a body. Every byte no enabled
leader claims, the leader of a disabled chain included, is offered to the RTCM2 sub-recognizer, dropped on `NO_SYNC`, and
otherwise the first byte of a candidate in the RTCM2 branch. The leader of an enabled open chain enters its chain. In a
state of such a chain, which has no row, a step makes the move the chain's rules give, and what a branch recognises it
delivers with a type of its own (`RTCM2` for the RTCM2 branch). With the stash on, every row does what it does without it
and the stash's rules are applied to what it leaves. The shape of the parameters is the model's own (log entries 6, 7
and 8). -/
def Obligations.OpenFeatures : Prop :=
  ∀ s : State, s.Ready →
    (s.cfg.chainEn.getLsbD 17 = true →
      (∀ c, exec (.gbOther c) s = .next (s.afterRtcm2Offer c)) ∧
      (∀ c, c ∉ groundLeaders → exec (.stGroundState c) s = .next (s.afterRtcm2Offer c)) ∧
      (∀ p ∈ ([(.gbComment, 0x23, 0), (.gbNmea, 0x24, 1), (.gbAis, 0x21, 2), (.gbJson, 0x7B, 3), (.gbUbx, 0xB5, 4),
          (.gbRtcm3, 0xD3, 5), (.gbCasic, 0xBA, 6), (.gbAllystar, 0xF1, 7), (.gbSuperstar2, 0x01, 8),
          (.gbNavcom, 0x02, 9), (.gbDle, 0x10, 10), (.gbZodiac, 0xFF, 11), (.gbSirf, 0xA0, 12), (.gbGreis, 0x7E, 13),
          (.gbItalk, 0x3C, 14), (.gbGeostar, 0x50, 15), (.gbAt, 0x40, 16)] : List (Instr × Byte × Nat)),
        s.cfg.chainEn.getLsbD p.2.2 = false →
          exec p.1 s = .next (s.afterRtcm2Offer p.2.1) ∧
            exec (.stGroundState p.2.1) s = .next (s.afterRtcm2Offer p.2.1))) ∧
    (∀ p ∈ ([(.gbSuperstar2, 0x01, 8, .superstar2), (.gbNavcom, 0x02, 9, .navcom), (.gbDle, 0x10, 10, .dle),
        (.gbZodiac, 0xFF, 11, .zodiac), (.gbSirf, 0xA0, 12, .sirf), (.gbItalk, 0x3C, 14, .italk),
        (.gbAt, 0x40, 16, .at)] : List (Instr × Byte × Nat × OpenChain)),
      s.cfg.chainEn.getLsbD p.2.2.1 = true →
        exec p.1 s = .next (s.afterGo (.branch p.2.2.2 (Config.branchEntry p.2.2.2))) ∧
          exec (.stGroundState p.2.1) s = .next (s.afterGo (.branch p.2.2.2 (Config.branchEntry p.2.2.2)))) ∧
    (∀ ch k, s.source = .stream → s.state = .branch ch k →
      step s = .next (s.afterBranch ch k (s.inByte s.rp)) ∧
        ∀ j ty n, validateBranch ch j s.nextCandidate = .accept ty n →
          ty ∈ ch.types ∧ 1 ≤ n ∧ n ≤ s.rp + 1) ∧
    (∀ (q : LexState) (c : Byte) (i : Instr), stateRow q c = some i ∨ decodeStream q c = some i →
      let stashOn : Config := { s.cfg with stashEn := true }
      ∃ t, exec i s = .next t ∧ exec i { s with cfg := stashOn } =
        .next (State.withStashView { t with cfg := stashOn } (Config.stashRules s.stashView t.stashView)))

/-- The reading of a stream byte by its format and by its state agree: the row the automaton fetches (a ground byte, a
talker byte, or the state's row) does what the row of the state does (`40_lexer_core.md` R150; log entry 15). Only the
states of the open chains have no row. -/
def Obligations.StreamReadingsAgree : Prop :=
  ∀ (q : LexState) (c : Byte) (s : State),
    (decodeStream q c).map (fun i => exec i s) = (stateRow q c).map (fun i => exec i s) ∧
    (q.isBranch = false → (stateRow q c).map (fun i => exec i s) = some (iterateIn q c s)) ∧
    ((∃ ch k, q = .branch ch k) ↔ decodeStream q c = none)

/-- `41_text_chains.md` R174, R175: the comment chain. -/
def Obligations.CommentChain : Prop :=
  ∀ (s : State) (c : Byte), s.Ready →
    (c = 0x0A → exec (.stCommentBody c) s =
      .next (s.afterVerdict .commentRecognized (.accept .comment (strippedLength s.nextCandidate)))) ∧
    (c = 0x0D ∨ c = 0x09 ∨ (0x20 ≤ c ∧ c ≤ 0x7E) → exec (.stCommentBody c) s = .next (s.afterGo .commentBody)) ∧
    (c ≠ 0x0A → c ≠ 0x0D → c ≠ 0x09 → ¬(0x20 ≤ c ∧ c ≤ 0x7E) →
      exec (.stCommentBody c) s = .next s.afterPushGround) ∧
    (c = 0x23 → exec (.stCommentRecognized c) s = .next (s.afterGo .commentBody)) ∧
    (c ≠ 0x23 → exec (.stCommentRecognized c) s = .next s.afterPushGround)

/-- `41_text_chains.md` R177: the talker dispatch, by the talker rows and by the row of the state. -/
def Obligations.TalkerDispatch : Prop :=
  ∀ s : State, s.Ready →
    (∀ p ∈ ([(.tkG, 0x47, .nmeaLeadG), (.tkP, 0x50, .nmeaVendorLead), (.tkA, 0x41, .nmeaLeadA),
        (.tkB, 0x42, .nmeaLeadB), (.tkH, 0x48, .nmeaLeadH), (.tkI, 0x49, .nmeaLeadI), (.tkQ, 0x51, .nmeaLeadQ),
        (.tkS, 0x53, .nmeaLeadS), (.tkT, 0x54, .nmeaLeadT), (.tkW, 0x57, .nmeaLeadW),
        (.tkY, 0x59, .nmeaLeadY)] : List (Instr × Byte × LexState)),
      exec p.1 s = .next (s.afterGo p.2.2) ∧ exec (.stNmeaDollar p.2.1) s = .next (s.afterGo p.2.2)) ∧
    (∀ c, exec (.tkOther c) s = .next s.afterPushGround) ∧
    (∀ c, c ∉ talkerBytes → exec (.stNmeaDollar c) s = .next s.afterPushGround)

/-- `41_text_chains.md` R178, R179, R180, R190, R191: the ten talker states, the vendor lead, the three letters after `$PA`,
which otherwise behave exactly as `NMEA_LEADER_END` does, and the two AIS address states. -/
def Obligations.AddressStates : Prop :=
  ∀ (s : State) (c : Byte), s.Ready →
    (∀ p ∈ ([(.stNmeaLeadG, 0x47), (.stNmeaLeadA, 0x41), (.stNmeaLeadB, 0x42), (.stNmeaLeadH, 0x48),
        (.stNmeaLeadI, 0x49), (.stNmeaLeadQ, 0x51), (.stNmeaLeadS, 0x53), (.stNmeaLeadT, 0x54), (.stNmeaLeadW, 0x57),
        (.stNmeaLeadY, 0x59)] : List ((Byte → Instr) × Byte)),
      ((∃ e ∈ s.cfg.talker2, e.1 = p.2 ∧ c ∈ e.2) → exec (p.1 c) s = .next (s.afterGo .nmeaLeaderEnd)) ∧
      ((¬∃ e ∈ s.cfg.talker2, e.1 = p.2 ∧ c ∈ e.2) → exec (p.1 c) s = .next s.afterPushGround)) ∧
    exec (.stNmeaVendorLead c) s =
      .next (if c = 0x41 then s.afterGo .nmeaPashrA else s.afterTest (decide (0x41 ≤ c ∧ c ≤ 0x5A)) .nmeaLeaderEnd) ∧
    exec (.stNmeaPashrA 0x53) s = .next (s.afterGo .nmeaPashrS) ∧
    (c ≠ 0x53 → exec (.stNmeaPashrA c) s = exec (.stNmeaLeaderEnd c) s) ∧
    exec (.stNmeaPashrS 0x48) s = .next (s.afterGo .nmeaPashrH) ∧
    (c ≠ 0x48 → exec (.stNmeaPashrS c) s = exec (.stNmeaLeaderEnd c) s) ∧
    exec (.stNmeaPashrH 0x52) s = .next (s.afterGo .nmeaBinaryBody) ∧
    (c ≠ 0x52 → exec (.stNmeaPashrH c) s = exec (.stNmeaLeaderEnd c) s) ∧
    ((∃ p ∈ s.cfg.aisPrefix, p.1 = c) → exec (.stNmeaBang c) s = .next (s.afterGo .aisLead1)) ∧
    ((¬∃ p ∈ s.cfg.aisPrefix, p.1 = c) → exec (.stNmeaBang c) s = .next s.afterPushGround) ∧
    ((s.inByte 1, c) ∈ s.cfg.aisPrefix → exec (.stAisLead1 c) s = .next (s.afterGo .nmeaLeaderEnd)) ∧
    ((s.inByte 1, c) ∉ s.cfg.aisPrefix → exec (.stAisLead1 c) s = .next s.afterPushGround)

/-- `41_text_chains.md` R182 to R186: the bodies of a sentence, its line end, and the state after a recognition. -/
def Obligations.NmeaBodyStates : Prop :=
  ∀ (s : State) (c : Byte), s.Ready →
    exec (.stNmeaBinaryBody c) s = .next (s.afterGo (if c = 0x0D then .nmeaBinaryCr else .nmeaBinaryBody)) ∧
    exec (.stNmeaBinaryCr c) s =
      .next (if c = 0x0A then s.afterVerdict .nmeaRecognized (validateNmea s.cfg s.nextCandidate)
        else s.afterGo (if c = 0x0D then .nmeaBinaryCr else .nmeaBinaryBody)) ∧
    exec (.stNmeaLeaderEnd c) s =
      .next (if c = 0x0D then s.afterGo .nmeaCr
        else if c = 0x0A then s.afterVerdict .nmeaRecognized (validateNmea s.cfg s.nextCandidate)
        else if c = 0x24 ∨ c = 0x7B then s.afterPushGround
        else s.afterTest (decide (0x20 ≤ c ∧ c ≤ 0x7E)) .nmeaLeaderEnd) ∧
    exec (.stNmeaCr c) s =
      .next (if c = 0x0A then s.afterVerdict .nmeaRecognized (validateNmea s.cfg s.nextCandidate)
        else s.afterPushGround) ∧
    exec (.stNmeaRecognized c) s =
      .next (if c = 0x24 then s.afterTest (s.cfg.chainEn.getLsbD 1) .nmeaDollar
        else s.afterTest (c == 0x21 && s.cfg.chainEn.getLsbD 2) .nmeaBang)

/-- `41_text_chains.md` R176, R187, R188, R189: the validation of a comment, NMEA or AIS candidate `sent ++ eol`, `eol` its
trailing run of line-end bytes. -/
def Obligations.TextValidations : Prop :=
  ∀ (cfg : Config) (sent eol : List Byte), (∀ c ∈ eol, c = 0x0D ∨ c = 0x0A) →
    (∀ c ∈ sent.getLast?, c ≠ 0x0D ∧ c ≠ 0x0A) →
    validateComment (sent ++ eol) = .accept .comment sent.length ∧
    let ty := if (sent ++ eol).head? = some 0x21 then PacketType.ais else PacketType.nmea
    ((∃ p ∈ cfg.nmeaExempt, p <+: sent) → validateNmea cfg (sent ++ eol) = .accept ty sent.length) ∧
    ((¬∃ p ∈ cfg.nmeaExempt, p <+: sent) → ∀ (lead : Byte) (span : List Byte) (h l : Byte),
      sent = lead :: span ++ [0x2A, h, l] →
      validateNmea cfg (sent ++ eol) =
        if h = hexChar ((xor8 span).toNat / 16) ∧ l = hexChar ((xor8 span).toNat % 16) then .accept ty sent.length
        else .bad) ∧
    ((¬∃ p ∈ cfg.nmeaExempt, p <+: sent) → (¬∃ lead span h l, sent = lead :: span ++ [0x2A, h, l]) →
      validateNmea cfg (sent ++ eol) = .accept ty sent.length)

/-- `41_text_chains.md` R194 to R198: the JSON chain. -/
def Obligations.JsonChain : Prop :=
  ∀ (s : State) (c : Byte), s.Ready →
    (c = 0x7B ∨ c = 0x5B → exec (.stJsonBody c) s = .next (s.afterDepth (s.jsonDepth + 1) .jsonBody)) ∧
    (c = 0x7D ∨ c = 0x5D → exec (.stJsonBody c) s =
      .next (if s.jsonDepth - 1 = 0 then s.afterVerdict .jsonRecognized (.accept .json (s.rp + 1))
        else s.afterDepth (s.jsonDepth - 1) .jsonBody)) ∧
    (c = 0x22 → exec (.stJsonBody c) s = .next (s.afterGo .jsonString)) ∧
    (c ∈ [0x20, 0x09, 0x0A, 0x0D, 0x2C, 0x3A] → exec (.stJsonBody c) s = .next (s.afterGo .jsonBody)) ∧
    (c = 0x2D ∨ (0x30 ≤ c ∧ c ≤ 0x39) ∨ c ∈ [0x74, 0x66, 0x6E] →
      exec (.stJsonBody c) s = .next (s.afterGo .jsonValue)) ∧
    (c ∉ [0x7B, 0x5B, 0x7D, 0x5D, 0x22, 0x20, 0x09, 0x0A, 0x0D, 0x2C, 0x3A, 0x2D, 0x74, 0x66, 0x6E] →
      ¬(0x30 ≤ c ∧ c ≤ 0x39) → exec (.stJsonBody c) s = .next s.afterPushGround) ∧
    exec (.stJsonString c) s =
      .next (if c = 0x5C then s.afterGo .jsonEscape else if c = 0x22 then s.afterGo .jsonBody
        else if c < 0x20 then s.afterPushGround else s.afterGo .jsonString) ∧
    exec (.stJsonEscape c) s = .next (s.afterGo .jsonString) ∧
    exec (.stJsonValue c) s =
      .next (if (0x30 ≤ c ∧ c ≤ 0x39) ∨ c ∈ [0x2E, 0x65, 0x45, 0x2B, 0x2D] ∨ (0x61 ≤ c ∧ c ≤ 0x7A)
        then s.afterGo .jsonValue else s.goto .jsonBody) ∧
    exec (.stJsonRecognized c) s =
      .next (if c = 0x7B then s.afterDepth 1 .jsonBody else s.afterPushGround)

/-! ## The binary chains -/

/-- `42_binary_chains.md` R231 to R239: the UBX chain. -/
def Obligations.UbxChain : Prop :=
  ∀ (s : State) (c : Byte), s.Ready →
    exec (.stUbxLeader1 c) s = .next (s.afterTest (c == 0x62) .ubxLeader2) ∧
    exec (.stUbxLeader2 c) s = .next (s.afterGo .ubxClassId) ∧
    exec (.stUbxClassId c) s = .next (s.afterGo .ubxMessageId) ∧
    exec (.stUbxMessageId c) s = .next (s.afterLoad c.toNat .ubxLength1) ∧
    exec (.stUbxLength1 c) s =
      .next (if s.cfg.maxPacketLength < s.pending + 256 * c.toNat + 8 then s.afterCap
        else s.afterLoad (s.pending + 256 * c.toNat) .ubxLength2) ∧
    exec (.stUbxLength2 c) s = .next (s.afterCountdown .ubxPayload .ubxChecksumA) ∧
    exec (.stUbxPayload c) s = .next (s.afterCountdown .ubxPayload .ubxChecksumA) ∧
    exec (.stUbxChecksumA c) s = .next (s.afterVerdict .ubxRecognized (validateUbx s.nextCandidate)) ∧
    exec (.stUbxRecognized c) s = .next (s.afterTest (c == 0xB5) .ubxLeader1)

/-- `42_binary_chains.md` R241 to R249: the ALLYSTAR chain. -/
def Obligations.AllystarChain : Prop :=
  ∀ (s : State) (c : Byte), s.Ready →
    exec (.stAllyLeader1 c) s = .next (s.afterTest (c == 0xD9) .allyLeader2) ∧
    exec (.stAllyLeader2 c) s = .next (s.afterGo .allyClassId) ∧
    exec (.stAllyClassId c) s = .next (s.afterGo .allyMessageId) ∧
    exec (.stAllyMessageId c) s = .next (s.afterLoad c.toNat .allyLength1) ∧
    exec (.stAllyLength1 c) s =
      .next (if s.cfg.maxPacketLength < s.pending + 256 * c.toNat + 8 then s.afterCap
        else s.afterLoad (s.pending + 256 * c.toNat) .allyLength2) ∧
    exec (.stAllyLength2 c) s = .next (s.afterCountdown .allyPayload .allyChecksumA) ∧
    exec (.stAllyPayload c) s = .next (s.afterCountdown .allyPayload .allyChecksumA) ∧
    exec (.stAllyChecksumA c) s = .next (s.afterVerdict .allyRecognized (validateAllystar s.nextCandidate)) ∧
    exec (.stAllyRecognized c) s = .next (s.afterTest (c == 0xF1) .allyLeader1)

/-- `42_binary_chains.md` R251 to R261: the CASIC chain; at the length the capacity test comes first. -/
def Obligations.CasicChain : Prop :=
  ∀ (s : State) (c : Byte), s.Ready →
    exec (.stCasicLeader1 c) s = .next (s.afterTest (c == 0xCE) .casicLeader2) ∧
    exec (.stCasicLeader2 c) s = .next (s.afterLoad c.toNat .casicLength1) ∧
    exec (.stCasicLength1 c) s =
      .next (if s.cfg.maxPacketLength < s.pending + 256 * c.toNat + 10 then s.afterCap
        else if (s.pending + 256 * c.toNat) % 4 ≠ 0 then s.afterPushGround
        else s.afterLoad (s.pending + 256 * c.toNat) .casicLength2) ∧
    exec (.stCasicLength2 c) s = .next (s.afterGo .casicClassId) ∧
    exec (.stCasicClassId c) s = .next (s.afterGo .casicMessageId) ∧
    exec (.stCasicMessageId c) s = .next (s.afterCountdown .casicPayload .casicChecksum1) ∧
    exec (.stCasicPayload c) s = .next (s.afterCountdown .casicPayload .casicChecksum1) ∧
    exec (.stCasicChecksum1 c) s = .next (s.afterGo .casicChecksum2) ∧
    exec (.stCasicChecksum2 c) s = .next (s.afterGo .casicChecksum3) ∧
    exec (.stCasicChecksum3 c) s = .next (s.afterVerdict .casicRecognized (validateCasic s.nextCandidate)) ∧
    exec (.stCasicRecognized c) s = .next (s.afterTest (c == 0xBA) .casicLeader1)

/-- `42_binary_chains.md` R263 to R269: the GEOSTAR header; the length counts words, `pending` bytes. -/
def Obligations.GeostarHeader : Prop :=
  ∀ (s : State) (c : Byte), s.Ready →
    exec (.stGeostarLeader1 c) s = .next (s.afterTest (c == 0x53) .geostarLeader2) ∧
    exec (.stGeostarLeader2 c) s = .next (s.afterTest (c == 0x47) .geostarLeader3) ∧
    exec (.stGeostarLeader3 c) s = .next (s.afterTest (c == 0x47) .geostarLeader4) ∧
    exec (.stGeostarLeader4 c) s = .next (s.afterGo .geostarMessageId1) ∧
    exec (.stGeostarMessageId1 c) s = .next (s.afterGo .geostarMessageId2) ∧
    exec (.stGeostarMessageId2 c) s = .next (s.afterLoad c.toNat .geostarLength1) ∧
    exec (.stGeostarLength1 c) s =
      .next (if s.cfg.maxPacketLength < 4 * (s.pending + 256 * c.toNat) + 12 then s.afterCap
        else s.afterLoad (4 * (s.pending + 256 * c.toNat)) .geostarLength2)

/-- `42_binary_chains.md` R270 to R275: the GEOSTAR payload and trailer. -/
def Obligations.GeostarPayloadAndTrailer : Prop :=
  ∀ (s : State) (c : Byte), s.Ready →
    exec (.stGeostarLength2 c) s = .next (s.afterCountdown .geostarPayload .geostarChecksum1) ∧
    exec (.stGeostarPayload c) s = .next (s.afterCountdown .geostarPayload .geostarChecksum1) ∧
    exec (.stGeostarChecksum1 c) s = .next (s.afterGo .geostarChecksum2) ∧
    exec (.stGeostarChecksum2 c) s = .next (s.afterGo .geostarChecksum3) ∧
    exec (.stGeostarChecksum3 c) s = .next (s.afterVerdict .geostarRecognized (validateGeostar s.nextCandidate)) ∧
    exec (.stGeostarRecognized c) s = .next (s.afterTest (c == 0x50) .geostarLeader1)

/-- `42_binary_chains.md` R277 to R283, R108: the GREIS chain. A byte is an uppercase hex digit of value `d` when it is the
digit `hexchar(d)`. -/
def Obligations.GreisChain : Prop :=
  ∀ (s : State) (c : Byte), s.Ready →
    exec (.stGreisId1 c) s = .next (s.afterTest (decide (0x30 ≤ c ∧ c ≤ 0x7E)) .greisId2) ∧
    (∀ d, d < 16 →
      exec (.stGreisId2 (hexChar d)) s = .next (s.afterLoad (256 * d) .greisLength1) ∧
      exec (.stGreisLength1 (hexChar d)) s = .next (s.afterLoad (s.pending + 16 * d) .greisLength2) ∧
      exec (.stGreisLength2 (hexChar d)) s =
        .next (if s.cfg.maxPacketLength < s.pending + d + 5 then s.afterCap
          else if s.pending + d = 0 then s.afterVerdict .greisRecognized (validateGreis s.nextCandidate)
          else s.afterLoad (s.pending + d) .greisLength3)) ∧
    ((∀ d, d < 16 → c ≠ hexChar d) →
      exec (.stGreisId2 c) s = .next s.afterPushGround ∧ exec (.stGreisLength1 c) s = .next s.afterPushGround ∧
      exec (.stGreisLength2 c) s = .next s.afterPushGround) ∧
    (∀ i ∈ [Instr.stGreisLength3 c, .stGreisPayload c],
      exec i s =
        .next (if s.pending = 0 then s.afterPushGround
          else if s.pending = 1 then s.afterVerdict .greisRecognized (validateGreis s.nextCandidate)
          else s.afterLoad (s.pending - 1) .greisPayload)) ∧
    exec (.stGreisRecognized c) s =
      .next (if c = 0x0D ∨ c = 0x0A then s.afterDrop .greisRecognized
        else s.afterTest (decide (0x30 ≤ c ∧ c ≤ 0x7E ∧ c ≠ 0x7B)) .greisId1)

/-- `42_binary_chains.md` R285 to R291: the RTCM3 chain. -/
def Obligations.Rtcm3Chain : Prop :=
  ∀ (s : State) (c : Byte), s.Ready →
    exec (.stRtcm3Leader1 c) s =
      .next (if c &&& 0xFC ≠ 0 then s.afterPushGround else s.afterLoad (256 * (c.toNat % 4)) .rtcm3Length1) ∧
    exec (.stRtcm3Length1 c) s =
      .next (if s.cfg.maxPacketLength < s.pending + c.toNat + 6 then s.afterCap
        else s.afterLoad (s.pending + c.toNat) .rtcm3Length2) ∧
    exec (.stRtcm3Length2 c) s = .next (s.afterCountdown .rtcm3Payload .rtcm3Crc1) ∧
    exec (.stRtcm3Payload c) s = .next (s.afterCountdown .rtcm3Payload .rtcm3Crc1) ∧
    exec (.stRtcm3Crc1 c) s = .next (s.afterGo .rtcm3Crc2) ∧
    exec (.stRtcm3Crc2 c) s = .next (s.afterVerdict .rtcm3Recognized (validateRtcm3 s.nextCandidate)) ∧
    exec (.stRtcm3Recognized c) s = .next (s.afterTest (c == 0xD3) .rtcm3Leader1)

/-- `42_binary_chains.md` R240, R250, R262, R276, R284, R292: the validation passes of the binary chains. -/
def Obligations.BinaryValidations : Prop :=
  ∀ (l1 l2 a b : Byte) (span cand : List Byte) (k32 : BitVec 32) (k24 : BitVec 24),
    validateUbx (l1 :: l2 :: span ++ [a, b]) =
      (if (fletch8 span).1 = a ∧ (fletch8 span).2 = b then .accept .ubx (span.length + 4) else .bad) ∧
    validateAllystar (l1 :: l2 :: span ++ [a, b]) =
      (if (fletch8 span).1 = a ∧ (fletch8 span).2 = b then .accept .allystar (span.length + 4) else .bad) ∧
    validateCasic (l1 :: l2 :: span ++ le32Bytes k32) =
      (if sum32 span = some k32 then .accept .casic (span.length + 6) else .bad) ∧
    validateGeostar cand = (if xor32 cand = some 0 then .accept .geostar cand.length else .bad) ∧
    validateGreis (l1 :: l2 :: cand) =
      (if (l1 = 0x52 ∧ l2 = 0x45) ∨ (l1 = 0x45 ∧ l2 = 0x52) ∨ cs8 (l1 :: l2 :: cand) = 0
        then .accept .greis (cand.length + 2) else .bad) ∧
    validateRtcm3 (cand ++ be24 k24) = (if crc24q cand = k24 then .accept .rtcm3 (cand.length + 3) else .bad)

/-! ## CHK -/

/-- `43_checksum_unit.md` R301: when a CHK command fails, with every value 0 and `ok` 0, and that `ok` is 1 in every other
case; no command changes anything but its result. -/
def Obligations.ChkFailures : Prop :=
  ∀ (s : State) (src : Src),
    (s.resolve src = none ↔ ∃ off n, src = .out off n ∧ s.outlen < off + n) ∧
    (s.resolve src = none →
      exec (.chkXor8 src) s = .next { s with result := .chk8 0 false } ∧
      exec (.chkCs8 src) s = .next { s with result := .chk8 0 false } ∧
      exec (.chkFletch8 src) s = .next { s with result := .chkPair 0 0 false } ∧
      exec (.chkSum32 src) s = .next { s with result := .chk32 0 false } ∧
      exec (.chkXor32 src) s = .next { s with result := .chk32 0 false } ∧
      exec (.chkCrc24q src) s = .next { s with result := .chk24 0 false }) ∧
    (∀ v, s.resolve src = some v → v.length % 4 ≠ 0 →
      exec (.chkSum32 src) s = .next { s with result := .chk32 0 false } ∧
      exec (.chkXor32 src) s = .next { s with result := .chk32 0 false }) ∧
    (∀ v, s.resolve src = some v →
      (∃ x, exec (.chkXor8 src) s = .next { s with result := .chk8 x true }) ∧
      (∃ x, exec (.chkCs8 src) s = .next { s with result := .chk8 x true }) ∧
      (∃ a b, exec (.chkFletch8 src) s = .next { s with result := .chkPair a b true }) ∧
      (∃ c, exec (.chkCrc24q src) s = .next { s with result := .chk24 c true }) ∧
      (v.length % 4 = 0 → (∃ x, exec (.chkSum32 src) s = .next { s with result := .chk32 x true }) ∧
        ∃ x, exec (.chkXor32 src) s = .next { s with result := .chk32 x true }))

/-- `30_encoding.md` R91: what an operand denotes: the immediate sequence, or the range `outbuf[off..off+n)` of a packet
that holds it. -/
def Obligations.SourceOperands : Prop :=
  ∀ s : State,
    (∀ bytes, s.resolve (.imm bytes) = some bytes) ∧
    (∀ off n, off + n ≤ s.outlen → ∃ v, s.resolve (.out off n) = some v ∧ v.length = n ∧
      ∀ k, k < n → v.getD k 0 = s.outByte (off + k)) ∧
    (∀ off n, s.outlen < off + n → s.resolve (.out off n) = none)

/-- `43_checksum_unit.md` R302, R303, R304: the three byte-wise algorithms, each as its loop over the bytes, and their
command codes. -/
def Obligations.ChkByteAlgorithms : Prop :=
  ∀ (s : State) (src : Src) (v : List Byte), s.resolve src = some v →
    (encode (.chkXor8 src)).2.head? = some 0x10 ∧ (encode (.chkCs8 src)).2.head? = some 0x11 ∧
    (encode (.chkFletch8 src)).2.head? = some 0x12 ∧
    exec (.chkXor8 src) s = .next { s with result := .chk8 (v.foldl (fun x b => x ^^^ b) 0) true } ∧
    exec (.chkCs8 src) s =
      .next { s with
        result := .chk8 ((v.foldl (fun r b => r.rotateLeft 2 ^^^ b) (0 : BitVec 8)).rotateLeft 2) true } ∧
    exec (.chkFletch8 src) s =
      .next { s with
        result := .chkPair
          (BitVec.ofNat 8 (v.foldl (fun p x => ((p.1 + x.toNat) % 256, (p.2 + (p.1 + x.toNat) % 256) % 256)) (0, 0)).1)
          (BitVec.ofNat 8 (v.foldl (fun p x => ((p.1 + x.toNat) % 256, (p.2 + (p.1 + x.toNat) % 256) % 256)) (0, 0)).2)
          true }

/-- `43_checksum_unit.md` R305, R306: the two word-wise algorithms over the `m / 4` little-endian words of a sequence of
length `m`, a multiple of 4: the sum modulo 2^32, and the exclusive or; they fail on any other length. -/
def Obligations.ChkWordAlgorithms : Prop :=
  ∀ (s : State) (src : Src) (v : List Byte), s.resolve src = some v →
    let word : Nat → Nat := fun j => (v.getD (4 * j) 0).toNat + 256 * (v.getD (4 * j + 1) 0).toNat +
      65536 * (v.getD (4 * j + 2) 0).toNat + 16777216 * (v.getD (4 * j + 3) 0).toNat
    (encode (.chkSum32 src)).2.head? = some 0x13 ∧ (encode (.chkXor32 src)).2.head? = some 0x14 ∧
    (v.length % 4 = 0 →
      exec (.chkSum32 src) s =
        .next { s with
          result := .chk32
            (BitVec.ofNat 32 ((List.range (v.length / 4)).foldl (fun t j => (t + word j) % 2 ^ 32) 0)) true } ∧
      exec (.chkXor32 src) s =
        .next { s with
          result := .chk32 (BitVec.ofNat 32 ((List.range (v.length / 4)).foldl (fun x j => x ^^^ word j) 0)) true }) ∧
    (v.length % 4 ≠ 0 →
      exec (.chkSum32 src) s = .next { s with result := .chk32 0 false } ∧
      exec (.chkXor32 src) s = .next { s with result := .chk32 0 false })

/-- `43_checksum_unit.md` R307: CRC-24Q as its loop over naturals, most significant bit first. -/
def Obligations.ChkCrc24q : Prop :=
  ∀ (s : State) (src : Src) (v : List Byte), s.resolve src = some v →
    let shift : Nat → Nat := fun crc =>
      if (2 * crc) &&& 0x1000000 ≠ 0 then (2 * crc) ^^^ 0x1864CFB else 2 * crc
    (encode (.chkCrc24q src)).2.head? = some 0x15 ∧ exec (.chkCrc24q src) s =
      .next { s with
        result := .chk24
          (BitVec.ofNat 24 (v.foldl (fun crc b => shift^[8] (crc ^^^ (b.toNat <<< 16))) 0 &&& 0xFFFFFF)) true }

/-- `43_checksum_unit.md` R308: the arithmetic laws of the checksums, (a) to (d); by the last two, comparing the CRC with
the trailer and asking for a CRC of zero over the whole frame accept the same frames. -/
def Obligations.ChecksumLaws : Prop :=
  ∀ u w : List Byte,
    xor8 (u ++ w) = xor8 u ^^^ xor8 w ∧ xor8 (u ++ [xor8 u]) = 0 ∧
    (u.length % 4 = 0 → w.length % 4 = 0 → ∃ xu xw su sw, xor32 u = some xu ∧ xor32 w = some xw ∧
      xor32 (u ++ w) = some (xu ^^^ xw) ∧ sum32 u = some su ∧ sum32 w = some sw ∧
      sum32 (u ++ w) = some (su + sw) ∧ xor32 (u ++ le32Bytes xu) = some 0) ∧
    cs8 (u ++ [cs8 u]) = 0 ∧ crc24q (u ++ be24 (crc24q u)) = 0 ∧
    (∀ b0 b1 b2, crc24q (u ++ [b0, b1, b2]) = 0 → [b0, b1, b2] = be24 (crc24q u))

/-- `43_checksum_unit.md` R309: flipping one covered or trailer byte of a complete candidate that its chain accepts gives
a candidate that is `Bad`: in UBX, ALLYSTAR and CASIC any byte but the two leaders, in GEOSTAR and RTCM3 any byte, in
GREIS any byte after an ID that is not exempt, in an NMEA or AIS sentence that keeps its `*hh` and is not exempt any
byte between the leader and the `*` and either checksum character. -/
def Obligations.SingleByteFlipIsBad : Prop :=
  ∀ (cand : List Byte) (i : Nat) (b : Byte), i < cand.length → cand.getD i 0 ≠ b →
    (4 ≤ cand.length → 2 ≤ i → validateUbx cand = .accept .ubx cand.length → validateUbx (cand.set i b) = .bad) ∧
    (4 ≤ cand.length → 2 ≤ i → validateAllystar cand = .accept .allystar cand.length →
      validateAllystar (cand.set i b) = .bad) ∧
    (6 ≤ cand.length → 2 ≤ i → validateCasic cand = .accept .casic cand.length →
      validateCasic (cand.set i b) = .bad) ∧
    (validateGeostar cand = .accept .geostar cand.length → validateGeostar (cand.set i b) = .bad) ∧
    (2 ≤ i → greisExempt cand = false → validateGreis cand = .accept .greis cand.length →
      validateGreis (cand.set i b) = .bad) ∧
    (3 ≤ cand.length → validateRtcm3 cand = .accept .rtcm3 cand.length → validateRtcm3 (cand.set i b) = .bad) ∧
    (∀ (cfg : Config) (sent eol : List Byte) (ty : PacketType), cand = sent ++ eol → 1 ≤ i → i < sent.length →
      (∀ c ∈ eol, c = 0x0D ∨ c = 0x0A) → (∀ c ∈ sent.getLast?, c ≠ 0x0D ∧ c ≠ 0x0A) →
      (∀ c ∈ (sent.set i b).getLast?, c ≠ 0x0D ∧ c ≠ 0x0A) → 4 ≤ sent.length → sent[sent.length - 3]? = some 0x2A →
      i ≠ sent.length - 3 → (∀ p ∈ cfg.nmeaExempt, ¬p <+: sent) → (∀ p ∈ cfg.nmeaExempt, ¬p <+: sent.set i b) →
      validateNmea cfg cand = .accept ty sent.length → validateNmea cfg (cand.set i b) = .bad)

/-! ## BFX -/

/-- `44_bit_extractor.md` R331, R332: `BFX.UBITS` reads the field's bits from the most significant on; with the
little-endian flag the field's bytes are taken in the other order, the bits inside each keeping theirs. -/
def Obligations.UbitsReadsTheField : Prop :=
  ∀ (s : State) (src : Src) (v : List Byte) (start width : Nat), s.resolve src = some v → 0 < width → width ≤ 56 →
    start + width ≤ 8 * v.length →
    (∃ u, u < 2 ^ width ∧ exec (.bfxUbits src start width false) s =
        .next { s with result := .field (BitVec.ofNat 64 u) true } ∧
      ∀ i, i < width → u.testBit (width - 1 - i) = (v.getD ((start + i) / 8) 0).getLsbD (7 - (start + i) % 8)) ∧
    (width % 8 = 0 → ∃ u, u < 2 ^ width ∧ exec (.bfxUbits src start width true) s =
        .next { s with result := .field (BitVec.ofNat 64 u) true } ∧
      ∀ i, i < width →
        u.testBit (8 * (i / 8) + (7 - i % 8)) = (v.getD ((start + i) / 8) 0).getLsbD (7 - (start + i) % 8))

/-- `44_bit_extractor.md` R333: `BFX.SBITS` is the two's-complement reading of what `BFX.UBITS` reads, sign-extended. -/
def Obligations.SbitsReadsSigned : Prop :=
  ∀ (s : State) (src : Src) (v : List Byte) (start width : Nat) (le : Bool), s.resolve src = some v →
    0 < width → width ≤ 56 → start + width ≤ 8 * v.length → (le = true → width % 8 = 0) →
    ∃ (u : Nat) (x : Int), exec (.bfxUbits src start width le) s =
        .next { s with result := .field (BitVec.ofNat 64 u) true } ∧ u < 2 ^ width ∧
      exec (.bfxSbits src start width le) s = .next { s with result := .field (BitVec.ofInt 64 x) true } ∧
      (BitVec.ofInt 64 x).toInt = x ∧ -(2 ^ (width - 1) : Int) ≤ x ∧ x < 2 ^ (width - 1) ∧
      x = if 2 ^ (width - 1) ≤ u then (u : Int) - 2 ^ width else (u : Int)

/-- `44_bit_extractor.md` R334: when a BFX command fails; then the value is 0 and `ok` is 0, and nothing changes. -/
def Obligations.BfxFailures : Prop :=
  ∀ (s : State) (src : Src) (start width off : Nat) (le : Bool),
    (width = 0 ∨ 56 < width ∨ (∃ v, s.resolve src = some v ∧ 8 * v.length < start + width) ∨
        (le = true ∧ width % 8 ≠ 0) ∨ s.resolve src = none →
      exec (.bfxUbits src start width le) s = .next { s with result := .field 0 false } ∧
      exec (.bfxSbits src start width le) s = .next { s with result := .field 0 false }) ∧
    (∀ p ∈ ([(.bfxGetbeu16, 2), (.bfxGetbeu32, 4), (.bfxGetbeu64, 8), (.bfxGetbes16, 2), (.bfxGetbes32, 4),
        (.bfxGetbes64, 8), (.bfxGetbef32, 4), (.bfxGetbed64, 8), (.bfxGetleu16, 2), (.bfxGetleu32, 4),
        (.bfxGetleu64, 8), (.bfxGetles16, 2), (.bfxGetles32, 4), (.bfxGetles64, 8), (.bfxGetlef32, 4),
        (.bfxGetled64, 8)] : List ((Src → Nat → Instr) × Nat)),
      (∃ v, s.resolve src = some v ∧ v.length < off + p.2) ∨ s.resolve src = none →
        exec (p.1 src off) s = .next { s with result := .field 0 false })

/-- `44_bit_extractor.md` R335: a big-endian field is the shifted and masked big-endian value of the bytes that cover it,
of which there are at most eight. -/
def Obligations.UbitsIsShiftAndMask : Prop :=
  ∀ (v : List Byte) (start width : Nat), 0 < width → width ≤ 56 → start + width ≤ 8 * v.length →
    (start + width - 1) / 8 - start / 8 + 1 ≤ 8 ∧
    ubits v start width false =
      some ((beValue v (start / 8) ((start + width - 1) / 8 - start / 8 + 1) >>> (7 - (start + width - 1) % 8)) %
        2 ^ width)

/-- `44_bit_extractor.md` R336 to R338, R342 to R346, R350, R351, R353: the unsigned and floating-point accessors, with
their command codes, return the number their bytes form, in big-endian or little-endian order. -/
def Obligations.UnsignedAccessors : Prop :=
  ∀ (s : State) (src : Src) (v : List Byte) (off : Nat), s.resolve src = some v →
    (∀ p ∈ ([(.bfxGetbeu16, 2, 0x30), (.bfxGetbeu32, 4, 0x31), (.bfxGetbeu64, 8, 0x32), (.bfxGetbef32, 4, 0x36),
        (.bfxGetbed64, 8, 0x37)] : List ((Src → Nat → Instr) × Nat × Byte)), off + p.2.1 ≤ v.length →
      (encode (p.1 src off)).2.head? = some p.2.2 ∧
      ∃ u, u < 2 ^ (8 * p.2.1) ∧ exec (p.1 src off) s = .next { s with result := .field (BitVec.ofNat 64 u) true } ∧
        ∀ j, j < p.2.1 → u / 256 ^ (p.2.1 - 1 - j) % 256 = (v.getD (off + j) 0).toNat) ∧
    (∀ p ∈ ([(.bfxGetleu16, 2, 0x38), (.bfxGetleu32, 4, 0x39), (.bfxGetleu64, 8, 0x3A), (.bfxGetlef32, 4, 0x3E),
        (.bfxGetled64, 8, 0x3F)] : List ((Src → Nat → Instr) × Nat × Byte)), off + p.2.1 ≤ v.length →
      (encode (p.1 src off)).2.head? = some p.2.2 ∧
      ∃ u, u < 2 ^ (8 * p.2.1) ∧ exec (p.1 src off) s = .next { s with result := .field (BitVec.ofNat 64 u) true } ∧
        ∀ j, j < p.2.1 → u / 256 ^ j % 256 = (v.getD (off + j) 0).toNat)

/-- `44_bit_extractor.md` R339 to R341, R347 to R349, R354(b): the signed accessors, with their command codes, return the
two's-complement reading of what the unsigned accessor of the same width and order returns, sign-extended. -/
def Obligations.SignedAccessors : Prop :=
  ∀ (s : State) (src : Src) (v : List Byte) (off : Nat), s.resolve src = some v →
    ∀ p ∈ ([(.bfxGetbes16, .bfxGetbeu16, 2, 0x33), (.bfxGetbes32, .bfxGetbeu32, 4, 0x34),
        (.bfxGetbes64, .bfxGetbeu64, 8, 0x35), (.bfxGetles16, .bfxGetleu16, 2, 0x3B),
        (.bfxGetles32, .bfxGetleu32, 4, 0x3C), (.bfxGetles64, .bfxGetleu64, 8, 0x3D)] :
        List ((Src → Nat → Instr) × (Src → Nat → Instr) × Nat × Byte)), off + p.2.2.1 ≤ v.length →
      (encode (p.1 src off)).2.head? = some p.2.2.2 ∧
      ∃ (u : Nat) (x : Int), exec (p.2.1 src off) s = .next { s with result := .field (BitVec.ofNat 64 u) true } ∧
        exec (p.1 src off) s = .next { s with result := .field (BitVec.ofInt 64 x) true } ∧
        u < 2 ^ (8 * p.2.2.1) ∧ (BitVec.ofInt 64 x).toInt = x ∧
        x = if 2 ^ (8 * p.2.2.1 - 1) ≤ u then (u : Int) - 2 ^ (8 * p.2.2.1) else (u : Int)

/-- `44_bit_extractor.md` R352: the accessors of 16 and 32 bits agree with the general extractor, those of 64 bits with
their two halves. -/
def Obligations.AccessorsAgree : Prop :=
  ∀ (v : List Byte) (off : Nat),
    (∀ nb ∈ [2, 4], off + nb ≤ v.length →
      getBeU v off nb = ubits v (8 * off) (8 * nb) false ∧ getLeU v off nb = ubits v (8 * off) (8 * nb) true ∧
      getBeS v off nb = sbits v (8 * off) (8 * nb) false ∧ getLeS v off nb = sbits v (8 * off) (8 * nb) true) ∧
    (off + 8 ≤ v.length → ∃ bh bl lh ll, getBeU v off 4 = some bh ∧ getBeU v (off + 4) 4 = some bl ∧
      getLeU v off 4 = some ll ∧ getLeU v (off + 4) 4 = some lh ∧
      getBeU v off 8 = some (2 ^ 32 * bh + bl) ∧ getLeU v off 8 = some (ll + 2 ^ 32 * lh))

/-- `44_bit_extractor.md` R354(d), (e), (g): fields side by side join; the flag reverses bytes and is idle on one byte; the
result depends only on the bytes that cover the field. -/
def Obligations.UbitsLaws : Prop :=
  ∀ (v v' : List Byte) (start w1 w2 : Nat),
    (∀ u, 0 < w1 → 0 < w2 → ubits v start (w1 + w2) false = some u →
      ∃ a b, ubits v start w1 false = some a ∧ ubits v (start + w1) w2 false = some b ∧ u = 2 ^ w2 * a + b) ∧
    (∀ u, w1 % 8 = 0 → ubits v start w1 false = some u → ubits v start w1 true = some (byteReverse u (w1 / 8))) ∧
    ubits v start 8 true = ubits v start 8 false ∧
    (∀ le u u', ubits v start w1 le = some u → ubits v' start w1 le = some u' →
      (∀ k, start / 8 ≤ k → k ≤ (start + w1 - 1) / 8 → v.getD k 0 = v'.getD k 0) → u = u')

/-! ## Decoding and the step -/

/-- Decoding the encoding of a well-formed instruction gives it back, and the bytes after it. The codes are the spec's
(`30_encoding.md` R92, R95, R96, `10_state.md` R35); the layout of the operands is the model's own (log entry 2). -/
def Obligations.DecodeEncode : Prop :=
  ∀ (i : Instr) (rest : List Byte), i.wf = true → decode (encode i).1 ((encode i).2 ++ rest) = .ok (i, rest)

/-- Words written out from the tables of `30_encoding.md` R92, R95, R96 and `10_state.md` R35 decode to their rows (the
layout of the operands is the model's own, log entry 2). -/
def Obligations.WordsDecode : Prop :=
  decode .cmd [0x00] = .ok (.lexInit, []) ∧ decode .cmd [0x02] = .ok (.lexParse, []) ∧
    decode .cmd [0x01, 1, 0x24, 1, 0x47, 0] = .ok (.lexFeed [0x24, 0x47], []) ∧
    decode .cmd [0x15, 0, 1, 0x31, 1, 0x32, 0] = .ok (.chkCrc24q (.imm [0x31, 0x32]), []) ∧
    decode .cmd [0x20, 1, 0, 0, 0, 0, 25, 0, 0, 0, 14, 0, 0, 0, 10, 0, 0, 0, 0] =
      .ok (.bfxUbits (.out 0 25) 14 10 false, []) ∧
    decode .cmd [0x38, 1, 0, 0, 0, 0, 10, 0, 0, 0, 4, 0, 0, 0] = .ok (.bfxGetleu16 (.out 0 10) 4, []) ∧
    decode .cmd [0x03] = .error .illegalCommand ∧
    decode .gb [0xB5] = .ok (.gbUbx, []) ∧ decode .gb [0x24] = .ok (.gbNmea, []) ∧
    decode .gb [0x41] = .ok (.gbOther 0x41, []) ∧ decode .tk [0x50] = .ok (.tkP, []) ∧
    decode .tk [0x24] = .ok (.tkOther 0x24, []) ∧ decode .st [0x24, 0x24] = .ok (.stUbxPayload 0x24, []) ∧
    decode .st [0x55, 0xD3] = .ok (.stRtcm3Recognized 0xD3, []) ∧ decode .st [0x56, 0x00] = .error .unusedState

/-- `10_state.md` R34, R35, `60_exceptions.md` R378: the codes of the registers' values and of the log. The states listed in
the order of R35 have the codes 0 to 85, which belong to no other state, and codes 86 to 127 belong to none of them (a state
of an open chain, which the baseline does not have, has one of those: the model's own, log entry 6); each
recognition ends in the state with its code; the packet types listed in the order of R34 have the codes 0 to 24 and no
other code appears; the events have the codes 1 to 5, `LOW` is 0 and `HIGH` is 1. -/
def Obligations.StateCodes : Prop :=
  ([.groundState, .commentBody, .commentRecognized, .nmeaDollar, .nmeaLeadG, .nmeaLeadA, .nmeaLeadB, .nmeaLeadH,
    .nmeaLeadI, .nmeaLeadQ, .nmeaLeadS, .nmeaLeadT, .nmeaLeadW, .nmeaLeadY, .nmeaVendorLead, .nmeaPashrA, .nmeaPashrS,
    .nmeaPashrH, .nmeaBinaryBody, .nmeaBinaryCr, .nmeaLeaderEnd, .nmeaCr, .nmeaRecognized, .nmeaBang, .aisLead1,
    .jsonBody, .jsonString, .jsonEscape, .jsonValue, .jsonRecognized, .ubxLeader1, .ubxLeader2, .ubxClassId,
    .ubxMessageId, .ubxLength1, .ubxLength2, .ubxPayload, .ubxChecksumA, .ubxRecognized, .allyLeader1, .allyLeader2,
    .allyClassId, .allyMessageId, .allyLength1, .allyLength2, .allyPayload, .allyChecksumA, .allyRecognized,
    .casicLeader1, .casicLeader2, .casicLength1, .casicLength2, .casicClassId, .casicMessageId, .casicPayload,
    .casicChecksum1, .casicChecksum2, .casicChecksum3, .casicRecognized, .geostarLeader1, .geostarLeader2,
    .geostarLeader3, .geostarLeader4, .geostarMessageId1, .geostarMessageId2, .geostarLength1, .geostarLength2,
    .geostarPayload, .geostarChecksum1, .geostarChecksum2, .geostarChecksum3, .geostarRecognized, .greisId1,
    .greisId2, .greisLength1, .greisLength2, .greisLength3, .greisPayload, .greisRecognized, .rtcm3Leader1,
    .rtcm3Length1, .rtcm3Length2, .rtcm3Payload, .rtcm3Crc1, .rtcm3Crc2, .rtcm3Recognized] :
      List LexState).map LexState.code = (List.range 86).map (BitVec.ofNat 7) ∧
    (∀ q : LexState, q.isBranch = false → LexState.ofCode? q.code = some q ∧ q.code < 86) ∧
    (∀ ch k, 86 ≤ (LexState.branch ch k).code) ∧
    (∀ n : BitVec 7, 86 ≤ n → LexState.ofCode? n = none) ∧
    (∀ n : BitVec 7, n < 86 → ∃ q : LexState, q.isBranch = false ∧ q.code = n) ∧
    [Recog.comment, .nmea, .json, .ubx, .allystar, .casic, .geostar, .greis, .rtcm3].map (fun r => r.state.code) =
      [2, 22, 29, 38, 47, 58, 71, 78, 85] ∧
    ([.nmea, .ais, .ubx, .rtcm2, .rtcm3, .sirf, .skytraq, .greis, .tsip, .garmin, .zodiac, .geostar, .allystar,
      .casic, .json, .comment, .bad, .none, .superstar2, .navcom, .evermore, .italk, .tnt, .garmintxt, .oncore] :
      List PacketType).map PacketType.code = (List.range 25).map (BitVec.ofNat 5) ∧
    (∀ ty : PacketType, ty.code < 25) ∧
    [Event.framing, .badCheck, .length, .full, .oversize].map Event.code = [1, 2, 3, 4, 5] ∧
    [Event.framing, .badCheck, .length, .full, .oversize].map (fun e => e.severity.code) = [0, 0, 1, 1, 1] ∧
    Severity.low.code = 0 ∧ Severity.high.code = 1

/-- A step runs the decoded instruction: the host's next command, taken out of the port; or, within a `LEX.PARSE`, the row
of the byte at the position (`state`, `rp`), unless every byte is consumed (`40_lexer_core.md` R134); a state of an open
chain has no row, and the step is its iteration (the model's own, log entry 6). With no command offered the instance is inert (`60_exceptions.md` R389). -/
def Obligations.StepRunsDecodedInstruction : Prop :=
  ∀ s : State,
    (∀ p ps i tail, s.source = .host → s.port = p :: ps → decode .cmd p = .ok (i, tail) →
      step s = exec i { s with port := ps }) ∧
    (∀ i, s.source = .stream → s.rp ≠ s.inlen → decodeStream s.state (s.inByte s.rp) = some i → step s = exec i s) ∧
    (∀ ch k, s.source = .stream → s.rp ≠ s.inlen → s.state = .branch ch k →
      step s = iterateBranch ch k (s.inByte s.rp) s) ∧
    (s.source = .stream → s.rp = s.inlen → step s = .next s.exhausted) ∧
    (s.source = .host → s.port = [] → step s = .next s)

/-- `30_encoding.md` R93: a command code outside the map changes nothing, logs nothing and returns `ILLEGAL`. That the
command leaves the model's port is the model's own (log entry 2). -/
def Obligations.IllegalCommands : Prop :=
  ∀ (s : State) (op : Byte) (operands : List Byte) (ps : List (List Byte)), s.source = .host →
    s.port = (op :: operands) :: ps →
    (0x03 ≤ op ∧ op ≤ 0x0F) ∨ (0x16 ≤ op ∧ op ≤ 0x1F) ∨ (0x22 ≤ op ∧ op ≤ 0x2F) ∨ 0x40 ≤ op →
    step s = .next { s with port := ps, result := .illegal }
end

