-- ==== Sys2Proof/Laws/Memory.lean ====
section
/-! SUPPORT. The laws of the byte spaces: what a read gives after each operation, and that every operation keeps the
canonical form. -/

namespace Sys2Proof.Machine

/-! ## Reading -/

@[simp] theorem Memory.byteAt?_nil (i : Nat) : Memory.byteAt? [] i = none := rfl

theorem Memory.byteAt?_cons (a : Nat) (b : Byte) (m : Memory) (i : Nat) :
    Memory.byteAt? ((a, b) :: m) i = if a = i then some b else m.byteAt? i := rfl

/-- A read after a write of one byte: the byte written at its address, everywhere else what stood there. -/
theorem Memory.byteAt?_put (m : Memory) (i : Nat) (v : Byte) (j : Nat) :
    (m.put i v).byteAt? j = if j = i then some v else m.byteAt? j := by
  induction m with
  | nil => simp [Memory.put, Memory.byteAt?_cons, eq_comm]
  | cons c m ih =>
    obtain ⟨a, b⟩ := c
    simp only [Memory.put]
    split
    · simp [Memory.byteAt?_cons, eq_comm]
    · split
      · subst_vars
        simp only [Memory.byteAt?_cons, eq_comm (a := j)]
        split <;> simp_all
      · simp only [Memory.byteAt?_cons, ih]
        split <;> split <;> simp_all

/-- A read after `MemWrite`: the sequence's own bytes over its range, everywhere else what stood there. -/
theorem Memory.byteAt?_writeBytes (bs : List Byte) (m : Memory) (i j : Nat) :
    (m.writeBytes i bs).byteAt? j = if i ≤ j ∧ j < i + bs.length then bs[j - i]? else m.byteAt? j := by
  induction bs generalizing m i with
  | nil => simp [Memory.writeBytes]
  | cons b bs ih =>
    simp only [Memory.writeBytes, ih, Memory.byteAt?_put, List.length_cons]
    by_cases h : j = i
    · subst h; simp
    · by_cases h1 : i + 1 ≤ j
      · obtain ⟨d, rfl⟩ : ∃ d, j = i + 1 + d := ⟨j - (i + 1), by omega⟩
        have h2 : i + 1 + d - i = d + 1 := by omega
        have h3 : i + 1 + d - (i + 1) = d := by omega
        have h4 : (i + 1 ≤ i + 1 + d ∧ i + 1 + d < i + 1 + bs.length) ↔
            (i ≤ i + 1 + d ∧ i + 1 + d < i + (bs.length + 1)) := by omega
        simp only [h2, h3, h4, List.getElem?_cons_succ, h, if_false]
      · rw [if_neg (by omega), if_neg h, if_neg (by omega)]

/-- A read of a window: the window's bytes moved down, nothing beyond its end. -/
theorem Memory.byteAt?_window (m : Memory) (lo hi j : Nat) :
    (m.window lo hi).byteAt? j = if lo + j < hi then m.byteAt? (lo + j) else none := by
  induction m with
  | nil => simp [Memory.window]
  | cons c m ih =>
    obtain ⟨a, b⟩ := c
    have h : Memory.window ((a, b) :: m) lo hi =
        if lo ≤ a ∧ a < hi then (a - lo, b) :: Memory.window m lo hi else Memory.window m lo hi := by
      by_cases h1 : lo ≤ a ∧ a < hi <;> simp [Memory.window, h1]
    rw [h, Memory.byteAt?_cons]
    by_cases h1 : lo ≤ a ∧ a < hi
    · rw [if_pos h1, Memory.byteAt?_cons, ih]
      by_cases h2 : a = lo + j
      · subst h2
        rw [if_pos (by omega), if_pos (by omega), if_pos rfl]
      · rw [if_neg (by omega), if_neg h2]
    · rw [if_neg h1, ih]
      by_cases h2 : a = lo + j
      · subst h2
        rw [if_neg (by omega), if_neg (by omega)]
      · rw [if_neg h2]

/-! ## The canonical form -/

/-- The canonical form, as a proposition. -/
theorem Memory.wf_iff (m : Memory) : m.wf = true ↔ m.Pairwise (fun a b => a.1 < b.1) := by simp [Memory.wf]

theorem Memory.mem_put (m : Memory) (i : Nat) (v : Byte) (c : Host.Cell) (h : c ∈ m.put i v) : c = (i, v) ∨ c ∈ m := by
  induction m with
  | nil => simpa [Memory.put] using h
  | cons d m ih =>
    obtain ⟨a, b⟩ := d
    simp only [Memory.put] at h
    split at h
    · simpa using h
    · split at h
      · rcases List.mem_cons.1 h with h | h <;> simp [h]
      · rcases List.mem_cons.1 h with h | h
        · simp [h]
        · rcases ih h with h | h <;> simp [h]

/-- Writing one byte keeps the canonical form. -/
theorem Memory.wf_put (m : Memory) (i : Nat) (v : Byte) (h : m.wf = true) : (m.put i v).wf = true := by
  rw [Memory.wf_iff] at h ⊢
  induction m with
  | nil => simp [Memory.put]
  | cons d m ih =>
    obtain ⟨a, b⟩ := d
    obtain ⟨h1, h2⟩ := List.pairwise_cons.1 h
    simp only [Memory.put]
    split
    · refine List.pairwise_cons.2 ⟨fun c hc => ?_, h⟩
      rcases List.mem_cons.1 hc with rfl | hc
      · assumption
      · exact Nat.lt_trans ‹_› (h1 c hc)
    · split
      · subst_vars; exact List.pairwise_cons.2 ⟨h1, h2⟩
      · refine List.pairwise_cons.2 ⟨fun c hc => ?_, ih h2⟩
        rcases Memory.mem_put m i v c hc with rfl | hc
        · simp only; omega
        · exact h1 c hc

/-- `MemWrite` keeps the canonical form. -/
theorem Memory.wf_writeBytes (bs : List Byte) (m : Memory) (i : Nat) (h : m.wf = true) :
    (m.writeBytes i bs).wf = true := by
  induction bs generalizing m i with
  | nil => simpa [Memory.writeBytes] using h
  | cons b bs ih => exact ih _ _ (Memory.wf_put m i b h)

/-- Cutting out a window keeps the canonical form. -/
theorem Memory.wf_window (m : Memory) (lo hi : Nat) (h : m.wf = true) : (m.window lo hi).wf = true := by
  rw [Memory.wf_iff] at h ⊢
  unfold Memory.window
  rw [List.pairwise_map]
  refine (List.pairwise_filter.2 ?_)
  refine h.imp ?_
  intro a b hab ha hb
  simp only [Bool.and_eq_true, decide_eq_true_eq] at ha hb
  omega

theorem Memory.byteAt?_eq_none_of_lt (m : Memory) (i : Nat) (h : ∀ c ∈ m, i < c.1) : m.byteAt? i = none := by
  induction m with
  | nil => rfl
  | cons c m ih =>
    obtain ⟨a, b⟩ := c
    rw [Memory.byteAt?_cons, if_neg (by have := h (a, b) (by simp); simp only at this; omega)]
    exact ih fun c hc => h c (by simp [hc])

/-- Two canonical spaces that read alike at every address are equal. -/
theorem Memory.ext_byteAt? (m m' : Memory) (h : m.wf = true) (h' : m'.wf = true)
    (e : ∀ i, m.byteAt? i = m'.byteAt? i) : m = m' := by
  rw [Memory.wf_iff] at h h'
  induction m generalizing m' with
  | nil =>
    cases m' with
    | nil => rfl
    | cons c m' => obtain ⟨a, b⟩ := c; simpa [Memory.byteAt?_cons] using e a
  | cons c m ih =>
    obtain ⟨a, b⟩ := c
    obtain ⟨h1, h2⟩ := List.pairwise_cons.1 h
    cases m' with
    | nil => simpa [Memory.byteAt?_cons] using e a
    | cons c' m' =>
      obtain ⟨a', b'⟩ := c'
      obtain ⟨h1', h2'⟩ := List.pairwise_cons.1 h'
      have hlt (i : Nat) (hi : i ≤ a) : Memory.byteAt? m i = none :=
        Memory.byteAt?_eq_none_of_lt m i fun c hc => Nat.lt_of_le_of_lt hi (h1 c hc)
      have hlt' (i : Nat) (hi : i ≤ a') : Memory.byteAt? m' i = none :=
        Memory.byteAt?_eq_none_of_lt m' i fun c hc => Nat.lt_of_le_of_lt hi (h1' c hc)
      have haa : a = a' := by
        rcases Nat.lt_trichotomy a a' with hl | hl | hl
        · have := e a
          rw [Memory.byteAt?_cons, if_pos rfl, Memory.byteAt?_cons, if_neg (by omega), hlt' a (by omega)] at this
          cases this
        · exact hl
        · have := e a'
          rw [Memory.byteAt?_cons, if_neg (by omega), hlt a' (by omega), Memory.byteAt?_cons, if_pos rfl] at this
          cases this
      subst haa
      have hb : b = b' := by simpa [Memory.byteAt?_cons] using e a
      subst hb
      rw [ih m' h2 h2' fun i => ?_]
      by_cases hi : a = i
      · subst hi; rw [hlt a (by omega), hlt' a (by omega)]
      · simpa [Memory.byteAt?_cons, hi] using e i

/-! ## Reading the buffers of the machine -/

/-- A read inside the valid content of a listed byte is that byte. -/
theorem readByte_of_byteAt? (sp : Space) (m : Memory) (limit i : Nat) (b : Byte) (hi : i < limit)
    (h : m.byteAt? i = some b) : readByte sp m limit i = b := by simp [readByte, hi, h]

@[simp] theorem State.inRange_length (s : State) (i n : Nat) : (s.inRange i n).length = n := by simp [State.inRange]

@[simp] theorem State.outRange_length (s : State) (i n : Nat) : (s.outRange i n).length = n := by simp [State.outRange]

@[simp] theorem State.candidate_length (s : State) : s.candidate.length = s.rp := by simp [State.candidate]

/-- The memories of the machine right after reset are in canonical form. -/
theorem State.reset_memories_wf :
    State.reset.inbuf.wf = true ∧ State.reset.outbuf.wf = true ∧ State.reset.stash.wf = true := by decide

/-- `Shift` keeps the canonical form of the input buffer. -/
theorem State.shift_wf (s : State) (n : Nat) (h : s.inbuf.wf = true) : (s.shift n).inbuf.wf = true :=
  Memory.wf_window _ _ _ h

/-- Appending keeps the canonical form of the input buffer. -/
theorem State.append_wf (s : State) (bs : List Byte) (h : s.inbuf.wf = true) : (s.append bs).inbuf.wf = true :=
  Memory.wf_writeBytes _ _ _ h

/-- `AcceptPacket` keeps the canonical form of both buffers. -/
theorem State.acceptPacket_wf (s : State) (ty : PacketType) (n : Nat) (h : s.inbuf.wf = true)
    (ho : s.outbuf.wf = true) : (s.acceptPacket ty n).inbuf.wf = true ∧ (s.acceptPacket ty n).outbuf.wf = true :=
  ⟨Memory.wf_window _ _ _ h, Memory.wf_window _ _ _ (Memory.wf_writeBytes _ _ _ ho)⟩

end Sys2Proof.Machine
end

