-- ==== Sys2Proof/Laws/State.lean ====
section
/-! SUPPORT. What each update of the machine record leaves in each field: one lemma per field per update. -/

namespace Sys2Proof.Machine

variable (s : State)

/-! ## `State.setIdle` -/

@[simp] theorem State.setIdle_cfg : (s.setIdle).cfg = s.cfg := rfl
@[simp] theorem State.setIdle_state : (s.setIdle).state = s.state := rfl
@[simp] theorem State.setIdle_inbuf : (s.setIdle).inbuf = s.inbuf := rfl
@[simp] theorem State.setIdle_inlen : (s.setIdle).inlen = s.inlen := rfl
@[simp] theorem State.setIdle_rp : (s.setIdle).rp = s.rp := rfl
@[simp] theorem State.setIdle_outbuf : (s.setIdle).outbuf = s.outbuf := rfl
@[simp] theorem State.setIdle_outlen : (s.setIdle).outlen = s.outlen := rfl
@[simp] theorem State.setIdle_type : (s.setIdle).type = s.type := rfl
@[simp] theorem State.setIdle_pending : (s.setIdle).pending = 0 := rfl
@[simp] theorem State.setIdle_counter : (s.setIdle).counter = s.counter := rfl
@[simp] theorem State.setIdle_chunkRem : (s.setIdle).chunkRem = s.chunkRem := rfl
@[simp] theorem State.setIdle_jsonDepth : (s.setIdle).jsonDepth = 0 := rfl
@[simp] theorem State.setIdle_stash : (s.setIdle).stash = s.stash := rfl
@[simp] theorem State.setIdle_stashlen : (s.setIdle).stashlen = s.stashlen := rfl
@[simp] theorem State.setIdle_rtcm2 : (s.setIdle).rtcm2 = s.rtcm2 := rfl
@[simp] theorem State.setIdle_log : (s.setIdle).log = s.log := rfl
@[simp] theorem State.setIdle_result : (s.setIdle).result = s.result := rfl
@[simp] theorem State.setIdle_port : (s.setIdle).port = s.port := rfl
@[simp] theorem State.setIdle_source : (s.setIdle).source = s.source := rfl

/-! ## `State.consume` -/

@[simp] theorem State.consume_cfg : (s.consume).cfg = s.cfg := rfl
@[simp] theorem State.consume_state : (s.consume).state = s.state := rfl
@[simp] theorem State.consume_inbuf : (s.consume).inbuf = s.inbuf := rfl
@[simp] theorem State.consume_inlen : (s.consume).inlen = s.inlen := rfl
@[simp] theorem State.consume_rp : (s.consume).rp = s.rp + 1 := rfl
@[simp] theorem State.consume_outbuf : (s.consume).outbuf = s.outbuf := rfl
@[simp] theorem State.consume_outlen : (s.consume).outlen = s.outlen := rfl
@[simp] theorem State.consume_type : (s.consume).type = s.type := rfl
@[simp] theorem State.consume_pending : (s.consume).pending = s.pending := rfl
@[simp] theorem State.consume_counter : (s.consume).counter = s.counter + 1 := rfl
@[simp] theorem State.consume_chunkRem : (s.consume).chunkRem = s.chunkRem := rfl
@[simp] theorem State.consume_jsonDepth : (s.consume).jsonDepth = s.jsonDepth := rfl
@[simp] theorem State.consume_stash : (s.consume).stash = s.stash := rfl
@[simp] theorem State.consume_stashlen : (s.consume).stashlen = s.stashlen := rfl
@[simp] theorem State.consume_rtcm2 : (s.consume).rtcm2 = s.rtcm2 := rfl
@[simp] theorem State.consume_log : (s.consume).log = s.log := rfl
@[simp] theorem State.consume_result : (s.consume).result = s.result := rfl
@[simp] theorem State.consume_port : (s.consume).port = s.port := rfl
@[simp] theorem State.consume_source : (s.consume).source = s.source := rfl

/-! ## `State.rewind` -/

@[simp] theorem State.rewind_cfg : (s.rewind).cfg = s.cfg := rfl
@[simp] theorem State.rewind_state : (s.rewind).state = s.state := rfl
@[simp] theorem State.rewind_inbuf : (s.rewind).inbuf = s.inbuf := rfl
@[simp] theorem State.rewind_inlen : (s.rewind).inlen = s.inlen := rfl
@[simp] theorem State.rewind_rp : (s.rewind).rp = s.rp - 1 := rfl
@[simp] theorem State.rewind_outbuf : (s.rewind).outbuf = s.outbuf := rfl
@[simp] theorem State.rewind_outlen : (s.rewind).outlen = s.outlen := rfl
@[simp] theorem State.rewind_type : (s.rewind).type = s.type := rfl
@[simp] theorem State.rewind_pending : (s.rewind).pending = s.pending := rfl
@[simp] theorem State.rewind_counter : (s.rewind).counter = s.counter - 1 := rfl
@[simp] theorem State.rewind_chunkRem : (s.rewind).chunkRem = s.chunkRem := rfl
@[simp] theorem State.rewind_jsonDepth : (s.rewind).jsonDepth = s.jsonDepth := rfl
@[simp] theorem State.rewind_stash : (s.rewind).stash = s.stash := rfl
@[simp] theorem State.rewind_stashlen : (s.rewind).stashlen = s.stashlen := rfl
@[simp] theorem State.rewind_rtcm2 : (s.rewind).rtcm2 = s.rtcm2 := rfl
@[simp] theorem State.rewind_log : (s.rewind).log = s.log := rfl
@[simp] theorem State.rewind_result : (s.rewind).result = s.result := rfl
@[simp] theorem State.rewind_port : (s.rewind).port = s.port := rfl
@[simp] theorem State.rewind_source : (s.rewind).source = s.source := rfl

/-! ## `State.goto` -/

@[simp] theorem State.goto_cfg (q : LexState) : (s.goto q).cfg = s.cfg := rfl
@[simp] theorem State.goto_state (q : LexState) : (s.goto q).state = q := rfl
@[simp] theorem State.goto_inbuf (q : LexState) : (s.goto q).inbuf = s.inbuf := rfl
@[simp] theorem State.goto_inlen (q : LexState) : (s.goto q).inlen = s.inlen := rfl
@[simp] theorem State.goto_rp (q : LexState) : (s.goto q).rp = s.rp := rfl
@[simp] theorem State.goto_outbuf (q : LexState) : (s.goto q).outbuf = s.outbuf := rfl
@[simp] theorem State.goto_outlen (q : LexState) : (s.goto q).outlen = s.outlen := rfl
@[simp] theorem State.goto_type (q : LexState) : (s.goto q).type = s.type := rfl
@[simp] theorem State.goto_pending (q : LexState) : (s.goto q).pending = s.pending := rfl
@[simp] theorem State.goto_counter (q : LexState) : (s.goto q).counter = s.counter := rfl
@[simp] theorem State.goto_chunkRem (q : LexState) : (s.goto q).chunkRem = s.chunkRem := rfl
@[simp] theorem State.goto_jsonDepth (q : LexState) : (s.goto q).jsonDepth = s.jsonDepth := rfl
@[simp] theorem State.goto_stash (q : LexState) : (s.goto q).stash = s.stash := rfl
@[simp] theorem State.goto_stashlen (q : LexState) : (s.goto q).stashlen = s.stashlen := rfl
@[simp] theorem State.goto_rtcm2 (q : LexState) : (s.goto q).rtcm2 = s.rtcm2 := rfl
@[simp] theorem State.goto_log (q : LexState) : (s.goto q).log = s.log := rfl
@[simp] theorem State.goto_result (q : LexState) : (s.goto q).result = s.result := rfl
@[simp] theorem State.goto_port (q : LexState) : (s.goto q).port = s.port := rfl
@[simp] theorem State.goto_source (q : LexState) : (s.goto q).source = s.source := rfl

/-! ## `State.shift` -/

@[simp] theorem State.shift_cfg (n : Nat) : (s.shift n).cfg = s.cfg := rfl
@[simp] theorem State.shift_state (n : Nat) : (s.shift n).state = s.state := rfl
@[simp] theorem State.shift_inbuf (n : Nat) : (s.shift n).inbuf = s.inbuf.window n s.inlen := rfl
@[simp] theorem State.shift_inlen (n : Nat) : (s.shift n).inlen = s.inlen - n := rfl
@[simp] theorem State.shift_rp (n : Nat) : (s.shift n).rp = 0 := rfl
@[simp] theorem State.shift_outbuf (n : Nat) : (s.shift n).outbuf = s.outbuf := rfl
@[simp] theorem State.shift_outlen (n : Nat) : (s.shift n).outlen = s.outlen := rfl
@[simp] theorem State.shift_type (n : Nat) : (s.shift n).type = s.type := rfl
@[simp] theorem State.shift_pending (n : Nat) : (s.shift n).pending = s.pending := rfl
@[simp] theorem State.shift_counter (n : Nat) : (s.shift n).counter = s.counter := rfl
@[simp] theorem State.shift_chunkRem (n : Nat) : (s.shift n).chunkRem = s.chunkRem := rfl
@[simp] theorem State.shift_jsonDepth (n : Nat) : (s.shift n).jsonDepth = s.jsonDepth := rfl
@[simp] theorem State.shift_stash (n : Nat) : (s.shift n).stash = s.stash := rfl
@[simp] theorem State.shift_stashlen (n : Nat) : (s.shift n).stashlen = s.stashlen := rfl
@[simp] theorem State.shift_rtcm2 (n : Nat) : (s.shift n).rtcm2 = s.rtcm2 := rfl
@[simp] theorem State.shift_log (n : Nat) : (s.shift n).log = s.log := rfl
@[simp] theorem State.shift_result (n : Nat) : (s.shift n).result = s.result := rfl
@[simp] theorem State.shift_port (n : Nat) : (s.shift n).port = s.port := rfl
@[simp] theorem State.shift_source (n : Nat) : (s.shift n).source = s.source := rfl

/-! ## `State.clearInput` -/

@[simp] theorem State.clearInput_cfg : (s.clearInput).cfg = s.cfg := rfl
@[simp] theorem State.clearInput_state : (s.clearInput).state = s.state := rfl
@[simp] theorem State.clearInput_inbuf : (s.clearInput).inbuf = [] := rfl
@[simp] theorem State.clearInput_inlen : (s.clearInput).inlen = 0 := rfl
@[simp] theorem State.clearInput_rp : (s.clearInput).rp = 0 := rfl
@[simp] theorem State.clearInput_outbuf : (s.clearInput).outbuf = s.outbuf := rfl
@[simp] theorem State.clearInput_outlen : (s.clearInput).outlen = s.outlen := rfl
@[simp] theorem State.clearInput_type : (s.clearInput).type = s.type := rfl
@[simp] theorem State.clearInput_pending : (s.clearInput).pending = s.pending := rfl
@[simp] theorem State.clearInput_counter : (s.clearInput).counter = s.counter := rfl
@[simp] theorem State.clearInput_chunkRem : (s.clearInput).chunkRem = s.chunkRem := rfl
@[simp] theorem State.clearInput_jsonDepth : (s.clearInput).jsonDepth = s.jsonDepth := rfl
@[simp] theorem State.clearInput_stash : (s.clearInput).stash = s.stash := rfl
@[simp] theorem State.clearInput_stashlen : (s.clearInput).stashlen = s.stashlen := rfl
@[simp] theorem State.clearInput_rtcm2 : (s.clearInput).rtcm2 = s.rtcm2 := rfl
@[simp] theorem State.clearInput_log : (s.clearInput).log = s.log := rfl
@[simp] theorem State.clearInput_result : (s.clearInput).result = s.result := rfl
@[simp] theorem State.clearInput_port : (s.clearInput).port = s.port := rfl
@[simp] theorem State.clearInput_source : (s.clearInput).source = s.source := rfl

/-! ## `State.append` -/

@[simp] theorem State.append_cfg (bs : List Byte) : (s.append bs).cfg = s.cfg := rfl
@[simp] theorem State.append_state (bs : List Byte) : (s.append bs).state = s.state := rfl
@[simp] theorem State.append_inbuf (bs : List Byte) : (s.append bs).inbuf = s.inbuf.writeBytes s.inlen bs := rfl
@[simp] theorem State.append_inlen (bs : List Byte) : (s.append bs).inlen = s.inlen + bs.length := rfl
@[simp] theorem State.append_rp (bs : List Byte) : (s.append bs).rp = s.rp := rfl
@[simp] theorem State.append_outbuf (bs : List Byte) : (s.append bs).outbuf = s.outbuf := rfl
@[simp] theorem State.append_outlen (bs : List Byte) : (s.append bs).outlen = s.outlen := rfl
@[simp] theorem State.append_type (bs : List Byte) : (s.append bs).type = s.type := rfl
@[simp] theorem State.append_pending (bs : List Byte) : (s.append bs).pending = s.pending := rfl
@[simp] theorem State.append_counter (bs : List Byte) : (s.append bs).counter = s.counter := rfl
@[simp] theorem State.append_chunkRem (bs : List Byte) : (s.append bs).chunkRem = s.chunkRem := rfl
@[simp] theorem State.append_jsonDepth (bs : List Byte) : (s.append bs).jsonDepth = s.jsonDepth := rfl
@[simp] theorem State.append_stash (bs : List Byte) : (s.append bs).stash = s.stash := rfl
@[simp] theorem State.append_stashlen (bs : List Byte) : (s.append bs).stashlen = s.stashlen := rfl
@[simp] theorem State.append_rtcm2 (bs : List Byte) : (s.append bs).rtcm2 = s.rtcm2 := rfl
@[simp] theorem State.append_log (bs : List Byte) : (s.append bs).log = s.log := rfl
@[simp] theorem State.append_result (bs : List Byte) : (s.append bs).result = s.result := rfl
@[simp] theorem State.append_port (bs : List Byte) : (s.append bs).port = s.port := rfl
@[simp] theorem State.append_source (bs : List Byte) : (s.append bs).source = s.source := rfl

/-! ## `State.withResult` -/

@[simp] theorem State.withResult_cfg (r : Result) : (s.withResult r).cfg = s.cfg := rfl
@[simp] theorem State.withResult_state (r : Result) : (s.withResult r).state = s.state := rfl
@[simp] theorem State.withResult_inbuf (r : Result) : (s.withResult r).inbuf = s.inbuf := rfl
@[simp] theorem State.withResult_inlen (r : Result) : (s.withResult r).inlen = s.inlen := rfl
@[simp] theorem State.withResult_rp (r : Result) : (s.withResult r).rp = s.rp := rfl
@[simp] theorem State.withResult_outbuf (r : Result) : (s.withResult r).outbuf = s.outbuf := rfl
@[simp] theorem State.withResult_outlen (r : Result) : (s.withResult r).outlen = s.outlen := rfl
@[simp] theorem State.withResult_type (r : Result) : (s.withResult r).type = s.type := rfl
@[simp] theorem State.withResult_pending (r : Result) : (s.withResult r).pending = s.pending := rfl
@[simp] theorem State.withResult_counter (r : Result) : (s.withResult r).counter = s.counter := rfl
@[simp] theorem State.withResult_chunkRem (r : Result) : (s.withResult r).chunkRem = s.chunkRem := rfl
@[simp] theorem State.withResult_jsonDepth (r : Result) : (s.withResult r).jsonDepth = s.jsonDepth := rfl
@[simp] theorem State.withResult_stash (r : Result) : (s.withResult r).stash = s.stash := rfl
@[simp] theorem State.withResult_stashlen (r : Result) : (s.withResult r).stashlen = s.stashlen := rfl
@[simp] theorem State.withResult_rtcm2 (r : Result) : (s.withResult r).rtcm2 = s.rtcm2 := rfl
@[simp] theorem State.withResult_log (r : Result) : (s.withResult r).log = s.log := rfl
@[simp] theorem State.withResult_result (r : Result) : (s.withResult r).result = r := rfl
@[simp] theorem State.withResult_port (r : Result) : (s.withResult r).port = s.port := rfl
@[simp] theorem State.withResult_source (r : Result) : (s.withResult r).source = s.source := rfl

/-! ## `State.finish` -/

@[simp] theorem State.finish_cfg (ty : PacketType) (n : Nat) (cap : Bool) : (s.finish ty n cap).cfg = s.cfg := rfl
@[simp] theorem State.finish_state (ty : PacketType) (n : Nat) (cap : Bool) : (s.finish ty n cap).state = s.state := rfl
@[simp] theorem State.finish_inbuf (ty : PacketType) (n : Nat) (cap : Bool) : (s.finish ty n cap).inbuf = s.inbuf := rfl
@[simp] theorem State.finish_inlen (ty : PacketType) (n : Nat) (cap : Bool) : (s.finish ty n cap).inlen = s.inlen := rfl
@[simp] theorem State.finish_rp (ty : PacketType) (n : Nat) (cap : Bool) : (s.finish ty n cap).rp = s.rp := rfl
@[simp] theorem State.finish_outbuf (ty : PacketType) (n : Nat) (cap : Bool) : (s.finish ty n cap).outbuf = s.outbuf := rfl
@[simp] theorem State.finish_outlen (ty : PacketType) (n : Nat) (cap : Bool) : (s.finish ty n cap).outlen = s.outlen := rfl
@[simp] theorem State.finish_type (ty : PacketType) (n : Nat) (cap : Bool) : (s.finish ty n cap).type = s.type := rfl
@[simp] theorem State.finish_pending (ty : PacketType) (n : Nat) (cap : Bool) : (s.finish ty n cap).pending = s.pending := rfl
@[simp] theorem State.finish_counter (ty : PacketType) (n : Nat) (cap : Bool) : (s.finish ty n cap).counter = s.counter := rfl
@[simp] theorem State.finish_chunkRem (ty : PacketType) (n : Nat) (cap : Bool) : (s.finish ty n cap).chunkRem = s.chunkRem := rfl
@[simp] theorem State.finish_jsonDepth (ty : PacketType) (n : Nat) (cap : Bool) : (s.finish ty n cap).jsonDepth = s.jsonDepth := rfl
@[simp] theorem State.finish_stash (ty : PacketType) (n : Nat) (cap : Bool) : (s.finish ty n cap).stash = s.stash := rfl
@[simp] theorem State.finish_stashlen (ty : PacketType) (n : Nat) (cap : Bool) : (s.finish ty n cap).stashlen = s.stashlen := rfl
@[simp] theorem State.finish_rtcm2 (ty : PacketType) (n : Nat) (cap : Bool) : (s.finish ty n cap).rtcm2 = s.rtcm2 := rfl
@[simp] theorem State.finish_log (ty : PacketType) (n : Nat) (cap : Bool) : (s.finish ty n cap).log = s.log := rfl
@[simp] theorem State.finish_result (ty : PacketType) (n : Nat) (cap : Bool) : (s.finish ty n cap).result = .parse ty n cap := rfl
@[simp] theorem State.finish_port (ty : PacketType) (n : Nat) (cap : Bool) : (s.finish ty n cap).port = s.port := rfl
@[simp] theorem State.finish_source (ty : PacketType) (n : Nat) (cap : Bool) : (s.finish ty n cap).source = .host := rfl

/-! ## `State.logEvent` -/

@[simp] theorem State.logEvent_cfg (e : Event) : (s.logEvent e).cfg = s.cfg := rfl
@[simp] theorem State.logEvent_state (e : Event) : (s.logEvent e).state = s.state := rfl
@[simp] theorem State.logEvent_inbuf (e : Event) : (s.logEvent e).inbuf = s.inbuf := rfl
@[simp] theorem State.logEvent_inlen (e : Event) : (s.logEvent e).inlen = s.inlen := rfl
@[simp] theorem State.logEvent_rp (e : Event) : (s.logEvent e).rp = s.rp := rfl
@[simp] theorem State.logEvent_outbuf (e : Event) : (s.logEvent e).outbuf = s.outbuf := rfl
@[simp] theorem State.logEvent_outlen (e : Event) : (s.logEvent e).outlen = s.outlen := rfl
@[simp] theorem State.logEvent_type (e : Event) : (s.logEvent e).type = s.type := rfl
@[simp] theorem State.logEvent_pending (e : Event) : (s.logEvent e).pending = s.pending := rfl
@[simp] theorem State.logEvent_counter (e : Event) : (s.logEvent e).counter = s.counter := rfl
@[simp] theorem State.logEvent_chunkRem (e : Event) : (s.logEvent e).chunkRem = s.chunkRem := rfl
@[simp] theorem State.logEvent_jsonDepth (e : Event) : (s.logEvent e).jsonDepth = s.jsonDepth := rfl
@[simp] theorem State.logEvent_stash (e : Event) : (s.logEvent e).stash = s.stash := rfl
@[simp] theorem State.logEvent_stashlen (e : Event) : (s.logEvent e).stashlen = s.stashlen := rfl
@[simp] theorem State.logEvent_rtcm2 (e : Event) : (s.logEvent e).rtcm2 = s.rtcm2 := rfl
@[simp] theorem State.logEvent_log (e : Event) : (s.logEvent e).log = s.log ++ [⟨e.severity, e⟩] := rfl
@[simp] theorem State.logEvent_result (e : Event) : (s.logEvent e).result = s.result := rfl
@[simp] theorem State.logEvent_port (e : Event) : (s.logEvent e).port = s.port := rfl
@[simp] theorem State.logEvent_source (e : Event) : (s.logEvent e).source = s.source := rfl

/-! ## `State.loadTrans` -/

@[simp] theorem State.loadTrans_cfg (t : Trans) : (s.loadTrans t).cfg = s.cfg := rfl
@[simp] theorem State.loadTrans_state (t : Trans) : (s.loadTrans t).state = s.state := rfl
@[simp] theorem State.loadTrans_inbuf (t : Trans) : (s.loadTrans t).inbuf = s.inbuf := rfl
@[simp] theorem State.loadTrans_inlen (t : Trans) : (s.loadTrans t).inlen = s.inlen := rfl
@[simp] theorem State.loadTrans_rp (t : Trans) : (s.loadTrans t).rp = s.rp := rfl
@[simp] theorem State.loadTrans_outbuf (t : Trans) : (s.loadTrans t).outbuf = s.outbuf := rfl
@[simp] theorem State.loadTrans_outlen (t : Trans) : (s.loadTrans t).outlen = s.outlen := rfl
@[simp] theorem State.loadTrans_type (t : Trans) : (s.loadTrans t).type = s.type := rfl
@[simp] theorem State.loadTrans_pending (t : Trans) : (s.loadTrans t).pending = t.pending := rfl
@[simp] theorem State.loadTrans_counter (t : Trans) : (s.loadTrans t).counter = s.counter := rfl
@[simp] theorem State.loadTrans_chunkRem (t : Trans) : (s.loadTrans t).chunkRem = s.chunkRem := rfl
@[simp] theorem State.loadTrans_jsonDepth (t : Trans) : (s.loadTrans t).jsonDepth = t.jsonDepth := rfl
@[simp] theorem State.loadTrans_stash (t : Trans) : (s.loadTrans t).stash = s.stash := rfl
@[simp] theorem State.loadTrans_stashlen (t : Trans) : (s.loadTrans t).stashlen = s.stashlen := rfl
@[simp] theorem State.loadTrans_rtcm2 (t : Trans) : (s.loadTrans t).rtcm2 = t.rtcm2 := rfl
@[simp] theorem State.loadTrans_log (t : Trans) : (s.loadTrans t).log = s.log := rfl
@[simp] theorem State.loadTrans_result (t : Trans) : (s.loadTrans t).result = s.result := rfl
@[simp] theorem State.loadTrans_port (t : Trans) : (s.loadTrans t).port = s.port := rfl
@[simp] theorem State.loadTrans_source (t : Trans) : (s.loadTrans t).source = s.source := rfl

/-! ## `State.placeCommand` -/

@[simp] theorem State.placeCommand_cfg (bs : List Byte) : (s.placeCommand bs).cfg = s.cfg := rfl
@[simp] theorem State.placeCommand_state (bs : List Byte) : (s.placeCommand bs).state = s.state := rfl
@[simp] theorem State.placeCommand_inbuf (bs : List Byte) : (s.placeCommand bs).inbuf = s.inbuf := rfl
@[simp] theorem State.placeCommand_inlen (bs : List Byte) : (s.placeCommand bs).inlen = s.inlen := rfl
@[simp] theorem State.placeCommand_rp (bs : List Byte) : (s.placeCommand bs).rp = s.rp := rfl
@[simp] theorem State.placeCommand_outbuf (bs : List Byte) : (s.placeCommand bs).outbuf = s.outbuf := rfl
@[simp] theorem State.placeCommand_outlen (bs : List Byte) : (s.placeCommand bs).outlen = s.outlen := rfl
@[simp] theorem State.placeCommand_type (bs : List Byte) : (s.placeCommand bs).type = s.type := rfl
@[simp] theorem State.placeCommand_pending (bs : List Byte) : (s.placeCommand bs).pending = s.pending := rfl
@[simp] theorem State.placeCommand_counter (bs : List Byte) : (s.placeCommand bs).counter = s.counter := rfl
@[simp] theorem State.placeCommand_chunkRem (bs : List Byte) : (s.placeCommand bs).chunkRem = s.chunkRem := rfl
@[simp] theorem State.placeCommand_jsonDepth (bs : List Byte) : (s.placeCommand bs).jsonDepth = s.jsonDepth := rfl
@[simp] theorem State.placeCommand_stash (bs : List Byte) : (s.placeCommand bs).stash = s.stash := rfl
@[simp] theorem State.placeCommand_stashlen (bs : List Byte) : (s.placeCommand bs).stashlen = s.stashlen := rfl
@[simp] theorem State.placeCommand_rtcm2 (bs : List Byte) : (s.placeCommand bs).rtcm2 = s.rtcm2 := rfl
@[simp] theorem State.placeCommand_log (bs : List Byte) : (s.placeCommand bs).log = s.log := rfl
@[simp] theorem State.placeCommand_result (bs : List Byte) : (s.placeCommand bs).result = s.result := rfl
@[simp] theorem State.placeCommand_port (bs : List Byte) : (s.placeCommand bs).port = bs :: s.port := rfl
@[simp] theorem State.placeCommand_source (bs : List Byte) : (s.placeCommand bs).source = .host := rfl

/-! ## `State.withStashView` -/

@[simp] theorem State.withStashView_cfg (v : StashView) : (s.withStashView v).cfg = s.cfg := rfl
@[simp] theorem State.withStashView_outbuf (v : StashView) : (s.withStashView v).outbuf = s.outbuf := rfl
@[simp] theorem State.withStashView_outlen (v : StashView) : (s.withStashView v).outlen = s.outlen := rfl
@[simp] theorem State.withStashView_type (v : StashView) : (s.withStashView v).type = s.type := rfl
@[simp] theorem State.withStashView_counter (v : StashView) : (s.withStashView v).counter = s.counter := rfl
@[simp] theorem State.withStashView_chunkRem (v : StashView) : (s.withStashView v).chunkRem = s.chunkRem := rfl
@[simp] theorem State.withStashView_rtcm2 (v : StashView) : (s.withStashView v).rtcm2 = s.rtcm2 := rfl
@[simp] theorem State.withStashView_log (v : StashView) : (s.withStashView v).log = s.log := rfl
@[simp] theorem State.withStashView_result (v : StashView) : (s.withStashView v).result = s.result := rfl
@[simp] theorem State.withStashView_port (v : StashView) : (s.withStashView v).port = s.port := rfl
@[simp] theorem State.withStashView_source (v : StashView) : (s.withStashView v).source = s.source := rfl
@[simp] theorem State.withStashView_state (v : StashView) :
    (s.withStashView v).state = v.state := rfl
@[simp] theorem State.withStashView_pending (v : StashView) :
    (s.withStashView v).pending = v.pending := rfl
@[simp] theorem State.withStashView_jsonDepth (v : StashView) :
    (s.withStashView v).jsonDepth = v.jsonDepth := rfl
@[simp] theorem State.withStashView_stashlen (v : StashView) :
    (s.withStashView v).stashlen = v.stash.length := rfl
@[simp] theorem State.withStashView_stash (v : StashView) :
    (s.withStashView v).stash = Memory.writeBytes [] 0 v.stash := rfl
@[simp] theorem State.withStashView_inbuf (v : StashView) :
    (s.withStashView v).inbuf = Memory.writeBytes [] 0 ((v.read ++ v.unread).take s.cfg.inCap) := rfl
@[simp] theorem State.withStashView_inlen (v : StashView) :
    (s.withStashView v).inlen = ((v.read ++ v.unread).take s.cfg.inCap).length := rfl
@[simp] theorem State.withStashView_rp (v : StashView) :
    (s.withStashView v).rp = min v.read.length ((v.read ++ v.unread).take s.cfg.inCap).length := rfl

/-! ## `State.applyStash` -/

@[simp] theorem State.applyStash_cfg (t : State) : (s.applyStash t).cfg = t.cfg := by
  unfold State.applyStash; split <;> rfl
@[simp] theorem State.applyStash_outbuf (t : State) : (s.applyStash t).outbuf = t.outbuf := by
  unfold State.applyStash; split <;> rfl
@[simp] theorem State.applyStash_outlen (t : State) : (s.applyStash t).outlen = t.outlen := by
  unfold State.applyStash; split <;> rfl
@[simp] theorem State.applyStash_type (t : State) : (s.applyStash t).type = t.type := by
  unfold State.applyStash; split <;> rfl
@[simp] theorem State.applyStash_counter (t : State) : (s.applyStash t).counter = t.counter := by
  unfold State.applyStash; split <;> rfl
@[simp] theorem State.applyStash_chunkRem (t : State) : (s.applyStash t).chunkRem = t.chunkRem := by
  unfold State.applyStash; split <;> rfl
@[simp] theorem State.applyStash_rtcm2 (t : State) : (s.applyStash t).rtcm2 = t.rtcm2 := by
  unfold State.applyStash; split <;> rfl
@[simp] theorem State.applyStash_log (t : State) : (s.applyStash t).log = t.log := by
  unfold State.applyStash; split <;> rfl
@[simp] theorem State.applyStash_result (t : State) : (s.applyStash t).result = t.result := by
  unfold State.applyStash; split <;> rfl
@[simp] theorem State.applyStash_port (t : State) : (s.applyStash t).port = t.port := by
  unfold State.applyStash; split <;> rfl
@[simp] theorem State.applyStash_source (t : State) : (s.applyStash t).source = t.source := by
  unfold State.applyStash; split <;> rfl

end Sys2Proof.Machine
end

