-- ==== Sys2Proof/Laws/Iteration.lean ====
section
/-! SUPPORT. What each shared operation of an iteration can do: one lemma per operation, which later proofs cite instead
of unfolding it. -/

namespace Sys2Proof.Machine

/-! ## Register operations -/

theorem State.consume_rewind (s : State) : s.consume.rewind = s := by
  cases s
  simp [State.consume, State.rewind]

/-- The five error events (`60_exceptions.md` R378): the record each leaves. -/
theorem State.raise_framing (s : State) :
    s.raise .framing =
      { s with
        state := .groundState, pending := 0, jsonDepth := 0
        inbuf := s.inbuf.window s.rp s.inlen, inlen := s.inlen - s.rp, rp := 0
        log := s.log ++ [⟨.low, .framing⟩] } := rfl

theorem State.raise_badCheck (s : State) :
    s.raise .badCheck =
      { s with
        state := .groundState, pending := 0, jsonDepth := 0
        inbuf := s.inbuf.window s.rp s.inlen, inlen := s.inlen - s.rp, rp := 0
        log := s.log ++ [⟨.low, .badCheck⟩], result := .parse .bad 0 false, source := .host } := rfl

theorem State.raise_oversize (s : State) :
    s.raise .oversize =
      { s with
        state := .groundState, pending := 0, jsonDepth := 0
        inbuf := s.inbuf.window s.rp s.inlen, inlen := s.inlen - s.rp, rp := 0
        log := s.log ++ [⟨.high, .oversize⟩], result := .parse .bad 0 true, source := .host } := rfl

theorem State.raise_length (s : State) :
    s.raise .length =
      { s with
        state := .groundState, pending := 0, jsonDepth := 0
        inbuf := [], inlen := 0, rp := 0
        log := s.log ++ [⟨.high, .length⟩], result := .parse .none 0 true, source := .host } := rfl

theorem State.raise_full (s : State) :
    s.raise .full =
      { s with
        state := .groundState, pending := 0, jsonDepth := 0
        inbuf := [], inlen := 0, rp := 0
        log := s.log ++ [⟨.high, .full⟩], result := .parse .none 0 true, source := .host } := rfl

/-- `Exhausted` (`40_lexer_core.md` R135): `E_FULL` on a full buffer, otherwise the fragment result alone. -/
theorem State.exhausted_cases (s : State) :
    (s.inlen = s.cfg.inCap ∧ s.exhausted = s.raise .full) ∨
      (s.inlen ≠ s.cfg.inCap ∧ s.exhausted = s.finish .none 0 false) := by
  by_cases h : s.inlen = s.cfg.inCap
  · exact .inl ⟨h, by simp [State.exhausted, h]⟩
  · exact .inr ⟨h, by simp [State.exhausted, h]⟩

/-! ## One iteration -/

/-- With the stash off it has no part in an iteration. -/
theorem State.applyStash_off {s : State} (h : s.cfg.stashEn = false) (t : State) : s.applyStash t = t := by
  simp [State.applyStash, h]

/-- With the stash on, an iteration leaves what its rules make of it. -/
theorem State.applyStash_on {s : State} (h : s.cfg.stashEn = true) (t : State) :
    s.applyStash t = t.withStashView (Config.stashRules s.stashView t.stashView) := by
  simp [State.applyStash, h]

/-- What the stash's rules write keeps the pointers in order (`10_state.md` R25), whatever they are. -/
theorem State.withStashView_pointersOk (s : State) (v : StashView) : (s.withStashView v).pointersOk := by
  simp only [State.pointersOk, State.withStashView, List.length_take]
  omega

/-- What the stash's rules write keeps both byte spaces in canonical form, whatever they are. -/
theorem State.withStashView_wf (s : State) (v : StashView) :
    (s.withStashView v).inbuf.wf = true ∧ (s.withStashView v).stash.wf = true :=
  ⟨Memory.wf_writeBytes _ _ _ rfl, Memory.wf_writeBytes _ _ _ rfl⟩

/-- An iteration with a byte to consume performs what the rule gives on the state after the byte is consumed, and the
stash has its part in the result. -/
theorem iteration_stash {s : State} (h : s.rp < s.inlen) (rule : State → Trans) :
    iteration rule s = .next (s.applyStash (perform s.consume (rule s.consume))) := if_pos h

/-- With the stash off, an iteration performs what the rule gives on the state after the byte is consumed. -/
theorem iteration_ready {s : State} (h : s.Ready) (rule : State → Trans) :
    iteration rule s = .next (perform s.consume (rule s.consume)) := by
  rw [iteration_stash h.2, State.applyStash_off h.1]

/-- A transition has one of the five actions the rules give. -/
theorem perform_cases (s : State) (tr : Trans) :
    (∃ q, tr.act = .go q ∧ perform s tr = (s.loadTrans tr).goto q) ∨
      (∃ q, tr.act = .push q ∧ perform s tr = (s.loadTrans tr).pushback q) ∨
      (∃ q, tr.act = .drop q ∧ perform s tr = (s.loadTrans tr).drop q) ∨
      (tr.act = .cap ∧ perform s tr = (s.loadTrans tr).raise .length) ∨
      ∃ r, tr.act = .recog r ∧ perform s tr = (s.loadTrans tr).recognise r := by
  unfold perform
  split
  · exact .inl ⟨_, ‹_›, rfl⟩
  · exact .inr (.inl ⟨_, ‹_›, rfl⟩)
  · exact .inr (.inr (.inl ⟨_, ‹_›, rfl⟩))
  · exact .inr (.inr (.inr (.inl ⟨‹_›, rfl⟩)))
  · exact .inr (.inr (.inr (.inr ⟨_, ‹_›, rfl⟩)))

/-- An iteration that answers a next state had a byte to consume, and its transition and the stash gave the state. -/
theorem iteration_next {rule : State → Trans} {s t : State} (h : iteration rule s = .next t) :
    s.rp < s.inlen ∧ t = s.applyStash (perform s.consume (rule s.consume)) := by
  unfold iteration at h
  split at h
  · exact ⟨‹_›, by cases h; rfl⟩
  · cases h

/-- With the stash off, an iteration that answers a next state was defined, and its action was one of the five. -/
theorem iteration_cases {rule : State → Trans} {s t : State} (hs : s.cfg.stashEn = false)
    (h : iteration rule s = .next t) :
    s.Ready ∧
      ((∃ q, (rule s.consume).act = .go q ∧ t = (s.consume.loadTrans (rule s.consume)).goto q) ∨
        (∃ q, (rule s.consume).act = .push q ∧ t = (s.consume.loadTrans (rule s.consume)).pushback q) ∨
        (∃ q, (rule s.consume).act = .drop q ∧ t = (s.consume.loadTrans (rule s.consume)).drop q) ∨
        ((rule s.consume).act = .cap ∧ t = (s.consume.loadTrans (rule s.consume)).raise .length) ∨
        ∃ r, (rule s.consume).act = .recog r ∧ t = (s.consume.loadTrans (rule s.consume)).recognise r) := by
  obtain ⟨hr, rfl⟩ := iteration_next h
  rw [State.applyStash_off hs]
  exact ⟨⟨hs, hr⟩, perform_cases s.consume (rule s.consume)⟩

variable {s : State} {rule : State → Trans}

/-- Action `Go` (`40_lexer_core.md` R137). -/
theorem iteration_go {q : LexState} (h : s.Ready) (hr : rule s.consume = s.consume.plain (.go q)) :
    iteration rule s = .next (s.afterGo q) := by rw [iteration_ready h, hr]; rfl

/-- Action `Go` with `pending` loaded. -/
theorem iteration_load {q : LexState} {p : Nat} (h : s.Ready) (hr : rule s.consume = s.consume.load p (.go q)) :
    iteration rule s = .next (s.afterLoad p q) := by rw [iteration_ready h, hr]; rfl

/-- Action `Go` with `json_depth` written. -/
theorem iteration_depth {q : LexState} {d : Nat} (h : s.Ready) (hr : rule s.consume = s.consume.depth d (.go q)) :
    iteration rule s = .next (s.afterDepth d q) := by rw [iteration_ready h, hr]; rfl

/-- Action `Drop` (`40_lexer_core.md` R140). -/
theorem iteration_drop {q : LexState} (h : s.Ready) (hr : rule s.consume = s.consume.plain (.drop q)) :
    iteration rule s = .next (s.afterDrop q) := by rw [iteration_ready h, hr]; rfl

/-- The offer of a byte to the RTCM2 sub-recognizer (`41_text_chains.md` R173, `42_binary_chains.md` R295). -/
theorem iteration_rtcm2Offer {c : Byte} (h : s.Ready) (hr : rule s.consume = rtcm2Offer c s.consume) :
    iteration rule s = .next (s.afterRtcm2Offer c) := by
  have hs : s.consume.rtcm2 = s.rtcm2 := rfl
  rw [iteration_ready h, hr, rtcm2Offer, State.afterRtcm2Offer, hs]
  rcases Config.rtcm2Step s.rtcm2 c with ⟨r, _ | _ | _⟩ <;> rfl

/-- A ground byte no enabled leader claims (`41_text_chains.md` R172): offered with RTCM2 switched on, dropped without. -/
theorem iteration_otherByte {c : Byte} (h : s.Ready) (hr : rule s.consume = nextOtherByte c s.consume) :
    iteration rule s =
      .next (if s.cfg.chainEn.getLsbD 17 then s.afterRtcm2Offer c else s.afterDrop .groundState) := by
  have hs : s.consume.cfg = s.cfg := rfl
  rw [nextOtherByte, hs] at hr
  split
  · next hb => exact iteration_rtcm2Offer h (by rw [hr, if_pos hb])
  · next hb => exact iteration_drop h (by rw [hr, if_neg hb])

/-- Action `Cap` (`40_lexer_core.md` R141), whatever `pending` was loaded with. -/
theorem iteration_cap {p : Nat} (h : s.Ready) (hr : rule s.consume = s.consume.load p .cap) :
    iteration rule s = .next s.afterCap := by rw [iteration_ready h, hr]; rfl

/-- Action `Push(GROUND_STATE)` (`40_lexer_core.md` R138, R139). -/
theorem iteration_pushGround (h : s.Ready) (hr : rule s.consume = s.consume.plain (.push .groundState)) :
    iteration rule s = .next s.afterPushGround := by
  rw [iteration_ready h, hr]
  have h1 : s.counter + 1 - 1 = s.counter := by simp
  by_cases h0 : s.rp = 0
  · cases s
    simp_all [perform, State.plain, State.loadTrans, State.consume, State.pushback, State.rewind, State.goto,
      State.pushToGround, State.afterPushGround, State.setIdle]
  · have h2 : 0 < s.rp := by omega
    cases s
    simp_all [perform, State.plain, State.loadTrans, State.consume, State.pushback, State.rewind, State.goto,
      State.pushToGround, State.afterPushGround, State.raise_framing]

/-- Action `Push` into another state (`40_lexer_core.md` R138): the byte is not consumed. -/
theorem iteration_push {q : LexState} (hq : q ≠ .groundState) (h : s.Ready)
    (hr : rule s.consume = s.consume.plain (.push q)) : iteration rule s = .next (s.goto q) := by
  rw [iteration_ready h, hr]
  cases s
  simp [perform, State.plain, State.loadTrans, State.consume, State.pushback, State.rewind, State.goto, hq]

/-- Action `Rec` (`40_lexer_core.md` R142) on a candidate its chain accepts. -/
theorem iteration_accept {r : Recog} {ty : PacketType} {n p d : Nat} (h : s.Ready)
    (hr : rule s.consume = ⟨.recog r, p, d, s.rtcm2⟩) (hv : validate s.cfg r s.nextCandidate = .accept ty n) :
    iteration rule s = .next (s.afterPass r.state ty n) := by
  rw [iteration_ready h, hr]
  have hv' : validate s.cfg r (((s.consume.loadTrans ⟨.recog r, p, d, s.rtcm2⟩).goto r.state).candidate) =
      .accept ty n := hv
  simp only [perform, State.recognise, State.goto_cfg, State.loadTrans_cfg, State.consume_cfg, hv']
  unfold State.conclude State.afterPass
  by_cases hc : s.cfg.maxPacketLength < n ∨ s.cfg.outCap - 1 < n
  · exact congrArg _ ((if_pos hc).trans (if_pos hc).symm)
  · exact congrArg _ ((if_neg hc).trans (if_neg hc).symm)

/-- Action `Rec` (`40_lexer_core.md` R142) on a candidate that fails its check. -/
theorem iteration_bad {r : Recog} {p d : Nat} (h : s.Ready)
    (hr : rule s.consume = ⟨.recog r, p, d, s.rtcm2⟩) (hv : validate s.cfg r s.nextCandidate = .bad) :
    iteration rule s = .next s.afterBad := by
  rw [iteration_ready h, hr]
  have hv' : validate s.cfg r (((s.consume.loadTrans ⟨.recog r, p, d, s.rtcm2⟩).goto r.state).candidate) =
      .bad := hv
  simp only [perform, State.recognise, State.goto_cfg, State.loadTrans_cfg, State.consume_cfg, hv', State.conclude]
  rfl

/-- The end of a validation pass (`40_lexer_core.md` R142): what `Rec` leaves for either verdict. -/
theorem iteration_recog {r : Recog} {p d : Nat} (h : s.Ready)
    (hr : rule s.consume = ⟨.recog r, p, d, s.rtcm2⟩) :
    iteration rule s = .next (s.afterVerdict r.state (validate s.cfg r s.nextCandidate)) := by
  cases hv : validate s.cfg r s.nextCandidate with
  | accept ty n => exact iteration_accept h hr hv
  | bad => exact iteration_bad h hr hv

/-- A transition that loads the counts performs its action on the state that has them already. -/
theorem perform_loaded (s : State) (a : Act) (p d : Nat) :
    perform s.consume ⟨a, p, d, s.rtcm2⟩ =
      perform { s with pending := p, jsonDepth := d }.consume
        (State.plain { s with pending := p, jsonDepth := d }.consume a) := by
  cases a <;> rfl

/-- A packet an open chain delivers has a type of the chain and a span from 1 byte to the whole candidate
(`42_binary_chains.md` R295, `40_lexer_core.md` R142). -/
theorem validateBranch_accept {ch : OpenChain} {j : BranchState} {cand : List Byte} {ty : PacketType} {n : Nat}
    (h : validateBranch ch j cand = .accept ty n) (hc : 1 ≤ cand.length) :
    ty ∈ ch.types ∧ 1 ≤ n ∧ n ≤ cand.length := by
  unfold validateBranch at h
  split at h
  · cases h
    refine ⟨?_, by omega, by omega⟩
    unfold OpenChain.packetType
    split <;> simp [OpenChain.types]
  · cases h

/-- An iteration in a state of an open chain (`42_binary_chains.md` R294, R295) is the move the parameter makes. -/
theorem iterateBranch_ready (h : s.Ready) (ch : OpenChain) (k : BranchState) (c : Byte) :
    iterateBranch ch k c s = .next (s.afterBranch ch k c) := by
  rw [iterateBranch, iteration_ready h, State.afterBranch]
  have hr : nextBranch ch k c s.consume =
      let m := Config.branchRules ch k ⟨c, s.nextCandidate, s.pending, s.jsonDepth, s.cfg⟩
      ⟨branchAct ch m.act, m.pending, m.jsonDepth, s.rtcm2⟩ := rfl
  rw [hr]
  generalize Config.branchRules ch k ⟨c, s.nextCandidate, s.pending, s.jsonDepth, s.cfg⟩ = m
  obtain ⟨act, p, d⟩ := m
  have hu : State.Ready { s with pending := p, jsonDepth := d } := h
  rw [perform_loaded, ← iteration_ready hu (fun x => x.plain (branchAct ch act))]
  rcases act with j | (_ | j) | (_ | j) | _ | j
  · exact iteration_go hu rfl
  · exact iteration_pushGround hu rfl
  · exact iteration_push (by simp) hu rfl
  · exact iteration_drop hu rfl
  · exact iteration_drop hu rfl
  · exact iteration_cap hu rfl
  · exact iteration_recog (rule := fun x => x.plain (.recog (.branch ch j))) hu rfl

/-- A leader state's test (`42_binary_chains.md` R230(a)). -/
theorem iteration_expect {q : LexState} {ok : Bool} (h : s.Ready) (hr : rule s.consume = s.consume.expect ok q) :
    iteration rule s = .next (s.afterTest ok q) := by
  cases ok with
  | true => exact iteration_go h hr
  | false => exact iteration_pushGround h hr

/-- `Countdown` (`40_lexer_core.md` R149). -/
theorem iteration_countdown {pay trailer : LexState} (h : s.Ready)
    (hr : rule s.consume = s.consume.countdown pay trailer) :
    iteration rule s = .next (s.afterCountdown pay trailer) := by
  by_cases h0 : s.pending = 0
  · rw [State.afterCountdown, if_pos h0]
    exact iteration_go h (hr.trans (if_pos h0))
  · rw [State.afterCountdown, if_neg h0]
    exact iteration_load h (hr.trans (if_neg h0))

/-- A leader test that holds. -/
theorem State.expect_true (q : LexState) : s.expect true q = s.plain (.go q) := rfl

/-- A leader test that fails. -/
theorem State.expect_false (q : LexState) : s.expect false q = s.plain (.push .groundState) := rfl

/-- With the stash off the bound on the iterations is the spec's (`70_reset_and_hazards.md` R422). -/
theorem State.iterationBound_off (h : s.cfg.stashEn = false) : s.iterationBound = 3 * (s.inlen - s.rp) := by
  simp [State.iterationBound, h]

/-- `LEX.PARSE` with nothing left to consume is `Exhausted` at once. -/
theorem parseLoop_exhausted (bound : Nat) (h : s.rp = s.inlen) : parseLoop bound s = .next s.exhausted := by
  cases bound <;> simp [parseLoop, h]

/-- One pass of the loop of `LEX.PARSE` that answers a next state. -/
theorem parseLoop_step {t : State} (k : Nat) (h : s.rp ≠ s.inlen) (hi : iterate s = .next t) :
    parseLoop (k + 1) s = if t.source = .host then .next t else parseLoop k t := by
  rw [parseLoop, if_neg h, hi]

end Sys2Proof.Machine
end

