-- ==== Sys2Proof/Laws/PerInstr.lean ====
section
/-! SUPPORT. The laws stated for every instruction: the shape its format gives its encoding. -/

namespace Sys2Proof.Laws.WordShape

/-- The encoding of an instruction has the shape of its format (`30_encoding.md` R90, R94, preamble): a command is an 8-bit
code of the unit 0 (LEX), 1 (CHK), 2 or 3 (BFX) and its operands, a ground byte and a talker byte are one byte, and a state's
row is a code below 86 and the consumed byte. -/
def Statement (i : Instr) : Prop :=
  match (encode i).1, (encode i).2 with
  | .cmd, op :: _ => op >>> 4 ≤ 3
  | .gb, [_] => True
  | .tk, [_] => True
  | .st, [q, _] => q < 86
  | _, _ => False

theorem lexInit : Statement .lexInit := (by decide : (0x00 : Byte) >>> 4 ≤ 3)
theorem lexFeed (bytes : List Byte) : Statement (.lexFeed bytes) := (by decide : (0x01 : Byte) >>> 4 ≤ 3)
theorem lexParse : Statement .lexParse := (by decide : (0x02 : Byte) >>> 4 ≤ 3)
theorem chkXor8 (src : Src) : Statement (.chkXor8 src) := (by decide : (0x10 : Byte) >>> 4 ≤ 3)
theorem chkCs8 (src : Src) : Statement (.chkCs8 src) := (by decide : (0x11 : Byte) >>> 4 ≤ 3)
theorem chkFletch8 (src : Src) : Statement (.chkFletch8 src) := (by decide : (0x12 : Byte) >>> 4 ≤ 3)
theorem chkSum32 (src : Src) : Statement (.chkSum32 src) := (by decide : (0x13 : Byte) >>> 4 ≤ 3)
theorem chkXor32 (src : Src) : Statement (.chkXor32 src) := (by decide : (0x14 : Byte) >>> 4 ≤ 3)
theorem chkCrc24q (src : Src) : Statement (.chkCrc24q src) := (by decide : (0x15 : Byte) >>> 4 ≤ 3)
theorem bfxUbits (src : Src) (start width : Nat) (le : Bool) : Statement (.bfxUbits src start width le) := (by decide : (0x20 : Byte) >>> 4 ≤ 3)
theorem bfxSbits (src : Src) (start width : Nat) (le : Bool) : Statement (.bfxSbits src start width le) := (by decide : (0x21 : Byte) >>> 4 ≤ 3)
theorem bfxGetbeu16 (src : Src) (off : Nat) : Statement (.bfxGetbeu16 src off) := (by decide : (0x30 : Byte) >>> 4 ≤ 3)
theorem bfxGetbeu32 (src : Src) (off : Nat) : Statement (.bfxGetbeu32 src off) := (by decide : (0x31 : Byte) >>> 4 ≤ 3)
theorem bfxGetbeu64 (src : Src) (off : Nat) : Statement (.bfxGetbeu64 src off) := (by decide : (0x32 : Byte) >>> 4 ≤ 3)
theorem bfxGetbes16 (src : Src) (off : Nat) : Statement (.bfxGetbes16 src off) := (by decide : (0x33 : Byte) >>> 4 ≤ 3)
theorem bfxGetbes32 (src : Src) (off : Nat) : Statement (.bfxGetbes32 src off) := (by decide : (0x34 : Byte) >>> 4 ≤ 3)
theorem bfxGetbes64 (src : Src) (off : Nat) : Statement (.bfxGetbes64 src off) := (by decide : (0x35 : Byte) >>> 4 ≤ 3)
theorem bfxGetbef32 (src : Src) (off : Nat) : Statement (.bfxGetbef32 src off) := (by decide : (0x36 : Byte) >>> 4 ≤ 3)
theorem bfxGetbed64 (src : Src) (off : Nat) : Statement (.bfxGetbed64 src off) := (by decide : (0x37 : Byte) >>> 4 ≤ 3)
theorem bfxGetleu16 (src : Src) (off : Nat) : Statement (.bfxGetleu16 src off) := (by decide : (0x38 : Byte) >>> 4 ≤ 3)
theorem bfxGetleu32 (src : Src) (off : Nat) : Statement (.bfxGetleu32 src off) := (by decide : (0x39 : Byte) >>> 4 ≤ 3)
theorem bfxGetleu64 (src : Src) (off : Nat) : Statement (.bfxGetleu64 src off) := (by decide : (0x3A : Byte) >>> 4 ≤ 3)
theorem bfxGetles16 (src : Src) (off : Nat) : Statement (.bfxGetles16 src off) := (by decide : (0x3B : Byte) >>> 4 ≤ 3)
theorem bfxGetles32 (src : Src) (off : Nat) : Statement (.bfxGetles32 src off) := (by decide : (0x3C : Byte) >>> 4 ≤ 3)
theorem bfxGetles64 (src : Src) (off : Nat) : Statement (.bfxGetles64 src off) := (by decide : (0x3D : Byte) >>> 4 ≤ 3)
theorem bfxGetlef32 (src : Src) (off : Nat) : Statement (.bfxGetlef32 src off) := (by decide : (0x3E : Byte) >>> 4 ≤ 3)
theorem bfxGetled64 (src : Src) (off : Nat) : Statement (.bfxGetled64 src off) := (by decide : (0x3F : Byte) >>> 4 ≤ 3)
theorem gbComment : Statement .gbComment := trivial
theorem gbNmea : Statement .gbNmea := trivial
theorem gbAis : Statement .gbAis := trivial
theorem gbJson : Statement .gbJson := trivial
theorem gbUbx : Statement .gbUbx := trivial
theorem gbRtcm3 : Statement .gbRtcm3 := trivial
theorem gbCasic : Statement .gbCasic := trivial
theorem gbAllystar : Statement .gbAllystar := trivial
theorem gbSuperstar2 : Statement .gbSuperstar2 := trivial
theorem gbNavcom : Statement .gbNavcom := trivial
theorem gbDle : Statement .gbDle := trivial
theorem gbZodiac : Statement .gbZodiac := trivial
theorem gbSirf : Statement .gbSirf := trivial
theorem gbGreis : Statement .gbGreis := trivial
theorem gbItalk : Statement .gbItalk := trivial
theorem gbGeostar : Statement .gbGeostar := trivial
theorem gbAt : Statement .gbAt := trivial
theorem gbOther (c : Byte) : Statement (.gbOther c) := trivial
theorem tkG : Statement .tkG := trivial
theorem tkP : Statement .tkP := trivial
theorem tkA : Statement .tkA := trivial
theorem tkB : Statement .tkB := trivial
theorem tkH : Statement .tkH := trivial
theorem tkI : Statement .tkI := trivial
theorem tkQ : Statement .tkQ := trivial
theorem tkS : Statement .tkS := trivial
theorem tkT : Statement .tkT := trivial
theorem tkW : Statement .tkW := trivial
theorem tkY : Statement .tkY := trivial
theorem tkOther (c : Byte) : Statement (.tkOther c) := trivial
theorem stGroundState (c : Byte) : Statement (.stGroundState c) := (by decide : (0 : BitVec 7).setWidth 8 < (86 : Byte))
theorem stCommentBody (c : Byte) : Statement (.stCommentBody c) := (by decide : (1 : BitVec 7).setWidth 8 < (86 : Byte))
theorem stCommentRecognized (c : Byte) : Statement (.stCommentRecognized c) := (by decide : (2 : BitVec 7).setWidth 8 < (86 : Byte))
theorem stNmeaDollar (c : Byte) : Statement (.stNmeaDollar c) := (by decide : (3 : BitVec 7).setWidth 8 < (86 : Byte))
theorem stNmeaLeadG (c : Byte) : Statement (.stNmeaLeadG c) := (by decide : (4 : BitVec 7).setWidth 8 < (86 : Byte))
theorem stNmeaLeadA (c : Byte) : Statement (.stNmeaLeadA c) := (by decide : (5 : BitVec 7).setWidth 8 < (86 : Byte))
theorem stNmeaLeadB (c : Byte) : Statement (.stNmeaLeadB c) := (by decide : (6 : BitVec 7).setWidth 8 < (86 : Byte))
theorem stNmeaLeadH (c : Byte) : Statement (.stNmeaLeadH c) := (by decide : (7 : BitVec 7).setWidth 8 < (86 : Byte))
theorem stNmeaLeadI (c : Byte) : Statement (.stNmeaLeadI c) := (by decide : (8 : BitVec 7).setWidth 8 < (86 : Byte))
theorem stNmeaLeadQ (c : Byte) : Statement (.stNmeaLeadQ c) := (by decide : (9 : BitVec 7).setWidth 8 < (86 : Byte))
theorem stNmeaLeadS (c : Byte) : Statement (.stNmeaLeadS c) := (by decide : (10 : BitVec 7).setWidth 8 < (86 : Byte))
theorem stNmeaLeadT (c : Byte) : Statement (.stNmeaLeadT c) := (by decide : (11 : BitVec 7).setWidth 8 < (86 : Byte))
theorem stNmeaLeadW (c : Byte) : Statement (.stNmeaLeadW c) := (by decide : (12 : BitVec 7).setWidth 8 < (86 : Byte))
theorem stNmeaLeadY (c : Byte) : Statement (.stNmeaLeadY c) := (by decide : (13 : BitVec 7).setWidth 8 < (86 : Byte))
theorem stNmeaVendorLead (c : Byte) : Statement (.stNmeaVendorLead c) := (by decide : (14 : BitVec 7).setWidth 8 < (86 : Byte))
theorem stNmeaPashrA (c : Byte) : Statement (.stNmeaPashrA c) := (by decide : (15 : BitVec 7).setWidth 8 < (86 : Byte))
theorem stNmeaPashrS (c : Byte) : Statement (.stNmeaPashrS c) := (by decide : (16 : BitVec 7).setWidth 8 < (86 : Byte))
theorem stNmeaPashrH (c : Byte) : Statement (.stNmeaPashrH c) := (by decide : (17 : BitVec 7).setWidth 8 < (86 : Byte))
theorem stNmeaBinaryBody (c : Byte) : Statement (.stNmeaBinaryBody c) := (by decide : (18 : BitVec 7).setWidth 8 < (86 : Byte))
theorem stNmeaBinaryCr (c : Byte) : Statement (.stNmeaBinaryCr c) := (by decide : (19 : BitVec 7).setWidth 8 < (86 : Byte))
theorem stNmeaLeaderEnd (c : Byte) : Statement (.stNmeaLeaderEnd c) := (by decide : (20 : BitVec 7).setWidth 8 < (86 : Byte))
theorem stNmeaCr (c : Byte) : Statement (.stNmeaCr c) := (by decide : (21 : BitVec 7).setWidth 8 < (86 : Byte))
theorem stNmeaRecognized (c : Byte) : Statement (.stNmeaRecognized c) := (by decide : (22 : BitVec 7).setWidth 8 < (86 : Byte))
theorem stNmeaBang (c : Byte) : Statement (.stNmeaBang c) := (by decide : (23 : BitVec 7).setWidth 8 < (86 : Byte))
theorem stAisLead1 (c : Byte) : Statement (.stAisLead1 c) := (by decide : (24 : BitVec 7).setWidth 8 < (86 : Byte))
theorem stJsonBody (c : Byte) : Statement (.stJsonBody c) := (by decide : (25 : BitVec 7).setWidth 8 < (86 : Byte))
theorem stJsonString (c : Byte) : Statement (.stJsonString c) := (by decide : (26 : BitVec 7).setWidth 8 < (86 : Byte))
theorem stJsonEscape (c : Byte) : Statement (.stJsonEscape c) := (by decide : (27 : BitVec 7).setWidth 8 < (86 : Byte))
theorem stJsonValue (c : Byte) : Statement (.stJsonValue c) := (by decide : (28 : BitVec 7).setWidth 8 < (86 : Byte))
theorem stJsonRecognized (c : Byte) : Statement (.stJsonRecognized c) := (by decide : (29 : BitVec 7).setWidth 8 < (86 : Byte))
theorem stUbxLeader1 (c : Byte) : Statement (.stUbxLeader1 c) := (by decide : (30 : BitVec 7).setWidth 8 < (86 : Byte))
theorem stUbxLeader2 (c : Byte) : Statement (.stUbxLeader2 c) := (by decide : (31 : BitVec 7).setWidth 8 < (86 : Byte))
theorem stUbxClassId (c : Byte) : Statement (.stUbxClassId c) := (by decide : (32 : BitVec 7).setWidth 8 < (86 : Byte))
theorem stUbxMessageId (c : Byte) : Statement (.stUbxMessageId c) := (by decide : (33 : BitVec 7).setWidth 8 < (86 : Byte))
theorem stUbxLength1 (c : Byte) : Statement (.stUbxLength1 c) := (by decide : (34 : BitVec 7).setWidth 8 < (86 : Byte))
theorem stUbxLength2 (c : Byte) : Statement (.stUbxLength2 c) := (by decide : (35 : BitVec 7).setWidth 8 < (86 : Byte))
theorem stUbxPayload (c : Byte) : Statement (.stUbxPayload c) := (by decide : (36 : BitVec 7).setWidth 8 < (86 : Byte))
theorem stUbxChecksumA (c : Byte) : Statement (.stUbxChecksumA c) := (by decide : (37 : BitVec 7).setWidth 8 < (86 : Byte))
theorem stUbxRecognized (c : Byte) : Statement (.stUbxRecognized c) := (by decide : (38 : BitVec 7).setWidth 8 < (86 : Byte))
theorem stAllyLeader1 (c : Byte) : Statement (.stAllyLeader1 c) := (by decide : (39 : BitVec 7).setWidth 8 < (86 : Byte))
theorem stAllyLeader2 (c : Byte) : Statement (.stAllyLeader2 c) := (by decide : (40 : BitVec 7).setWidth 8 < (86 : Byte))
theorem stAllyClassId (c : Byte) : Statement (.stAllyClassId c) := (by decide : (41 : BitVec 7).setWidth 8 < (86 : Byte))
theorem stAllyMessageId (c : Byte) : Statement (.stAllyMessageId c) := (by decide : (42 : BitVec 7).setWidth 8 < (86 : Byte))
theorem stAllyLength1 (c : Byte) : Statement (.stAllyLength1 c) := (by decide : (43 : BitVec 7).setWidth 8 < (86 : Byte))
theorem stAllyLength2 (c : Byte) : Statement (.stAllyLength2 c) := (by decide : (44 : BitVec 7).setWidth 8 < (86 : Byte))
theorem stAllyPayload (c : Byte) : Statement (.stAllyPayload c) := (by decide : (45 : BitVec 7).setWidth 8 < (86 : Byte))
theorem stAllyChecksumA (c : Byte) : Statement (.stAllyChecksumA c) := (by decide : (46 : BitVec 7).setWidth 8 < (86 : Byte))
theorem stAllyRecognized (c : Byte) : Statement (.stAllyRecognized c) := (by decide : (47 : BitVec 7).setWidth 8 < (86 : Byte))
theorem stCasicLeader1 (c : Byte) : Statement (.stCasicLeader1 c) := (by decide : (48 : BitVec 7).setWidth 8 < (86 : Byte))
theorem stCasicLeader2 (c : Byte) : Statement (.stCasicLeader2 c) := (by decide : (49 : BitVec 7).setWidth 8 < (86 : Byte))
theorem stCasicLength1 (c : Byte) : Statement (.stCasicLength1 c) := (by decide : (50 : BitVec 7).setWidth 8 < (86 : Byte))
theorem stCasicLength2 (c : Byte) : Statement (.stCasicLength2 c) := (by decide : (51 : BitVec 7).setWidth 8 < (86 : Byte))
theorem stCasicClassId (c : Byte) : Statement (.stCasicClassId c) := (by decide : (52 : BitVec 7).setWidth 8 < (86 : Byte))
theorem stCasicMessageId (c : Byte) : Statement (.stCasicMessageId c) := (by decide : (53 : BitVec 7).setWidth 8 < (86 : Byte))
theorem stCasicPayload (c : Byte) : Statement (.stCasicPayload c) := (by decide : (54 : BitVec 7).setWidth 8 < (86 : Byte))
theorem stCasicChecksum1 (c : Byte) : Statement (.stCasicChecksum1 c) := (by decide : (55 : BitVec 7).setWidth 8 < (86 : Byte))
theorem stCasicChecksum2 (c : Byte) : Statement (.stCasicChecksum2 c) := (by decide : (56 : BitVec 7).setWidth 8 < (86 : Byte))
theorem stCasicChecksum3 (c : Byte) : Statement (.stCasicChecksum3 c) := (by decide : (57 : BitVec 7).setWidth 8 < (86 : Byte))
theorem stCasicRecognized (c : Byte) : Statement (.stCasicRecognized c) := (by decide : (58 : BitVec 7).setWidth 8 < (86 : Byte))
theorem stGeostarLeader1 (c : Byte) : Statement (.stGeostarLeader1 c) := (by decide : (59 : BitVec 7).setWidth 8 < (86 : Byte))
theorem stGeostarLeader2 (c : Byte) : Statement (.stGeostarLeader2 c) := (by decide : (60 : BitVec 7).setWidth 8 < (86 : Byte))
theorem stGeostarLeader3 (c : Byte) : Statement (.stGeostarLeader3 c) := (by decide : (61 : BitVec 7).setWidth 8 < (86 : Byte))
theorem stGeostarLeader4 (c : Byte) : Statement (.stGeostarLeader4 c) := (by decide : (62 : BitVec 7).setWidth 8 < (86 : Byte))
theorem stGeostarMessageId1 (c : Byte) : Statement (.stGeostarMessageId1 c) := (by decide : (63 : BitVec 7).setWidth 8 < (86 : Byte))
theorem stGeostarMessageId2 (c : Byte) : Statement (.stGeostarMessageId2 c) := (by decide : (64 : BitVec 7).setWidth 8 < (86 : Byte))
theorem stGeostarLength1 (c : Byte) : Statement (.stGeostarLength1 c) := (by decide : (65 : BitVec 7).setWidth 8 < (86 : Byte))
theorem stGeostarLength2 (c : Byte) : Statement (.stGeostarLength2 c) := (by decide : (66 : BitVec 7).setWidth 8 < (86 : Byte))
theorem stGeostarPayload (c : Byte) : Statement (.stGeostarPayload c) := (by decide : (67 : BitVec 7).setWidth 8 < (86 : Byte))
theorem stGeostarChecksum1 (c : Byte) : Statement (.stGeostarChecksum1 c) := (by decide : (68 : BitVec 7).setWidth 8 < (86 : Byte))
theorem stGeostarChecksum2 (c : Byte) : Statement (.stGeostarChecksum2 c) := (by decide : (69 : BitVec 7).setWidth 8 < (86 : Byte))
theorem stGeostarChecksum3 (c : Byte) : Statement (.stGeostarChecksum3 c) := (by decide : (70 : BitVec 7).setWidth 8 < (86 : Byte))
theorem stGeostarRecognized (c : Byte) : Statement (.stGeostarRecognized c) := (by decide : (71 : BitVec 7).setWidth 8 < (86 : Byte))
theorem stGreisId1 (c : Byte) : Statement (.stGreisId1 c) := (by decide : (72 : BitVec 7).setWidth 8 < (86 : Byte))
theorem stGreisId2 (c : Byte) : Statement (.stGreisId2 c) := (by decide : (73 : BitVec 7).setWidth 8 < (86 : Byte))
theorem stGreisLength1 (c : Byte) : Statement (.stGreisLength1 c) := (by decide : (74 : BitVec 7).setWidth 8 < (86 : Byte))
theorem stGreisLength2 (c : Byte) : Statement (.stGreisLength2 c) := (by decide : (75 : BitVec 7).setWidth 8 < (86 : Byte))
theorem stGreisLength3 (c : Byte) : Statement (.stGreisLength3 c) := (by decide : (76 : BitVec 7).setWidth 8 < (86 : Byte))
theorem stGreisPayload (c : Byte) : Statement (.stGreisPayload c) := (by decide : (77 : BitVec 7).setWidth 8 < (86 : Byte))
theorem stGreisRecognized (c : Byte) : Statement (.stGreisRecognized c) := (by decide : (78 : BitVec 7).setWidth 8 < (86 : Byte))
theorem stRtcm3Leader1 (c : Byte) : Statement (.stRtcm3Leader1 c) := (by decide : (79 : BitVec 7).setWidth 8 < (86 : Byte))
theorem stRtcm3Length1 (c : Byte) : Statement (.stRtcm3Length1 c) := (by decide : (80 : BitVec 7).setWidth 8 < (86 : Byte))
theorem stRtcm3Length2 (c : Byte) : Statement (.stRtcm3Length2 c) := (by decide : (81 : BitVec 7).setWidth 8 < (86 : Byte))
theorem stRtcm3Payload (c : Byte) : Statement (.stRtcm3Payload c) := (by decide : (82 : BitVec 7).setWidth 8 < (86 : Byte))
theorem stRtcm3Crc1 (c : Byte) : Statement (.stRtcm3Crc1 c) := (by decide : (83 : BitVec 7).setWidth 8 < (86 : Byte))
theorem stRtcm3Crc2 (c : Byte) : Statement (.stRtcm3Crc2 c) := (by decide : (84 : BitVec 7).setWidth 8 < (86 : Byte))
theorem stRtcm3Recognized (c : Byte) : Statement (.stRtcm3Recognized c) := (by decide : (85 : BitVec 7).setWidth 8 < (86 : Byte))

end Sys2Proof.Laws.WordShape
end

