-- ==== Sys2Proof/Tests/Slice0.lean ====
section
/-! SUPPORT. The model's own tests: well-formedness, the decoding of a word of every row, a few single steps with results
taken from the spec's examples, and for every statement with hypotheses a concrete case that meets them. -/

namespace Sys2Proof.Tests

-- One test at a time: checked side by side, the tests need a thread each and more memory than the check allows.
set_option Elab.async false

open Sys2Proof Sys2Proof.Machine

/-! ## Well-formedness: an ill-formed term for each check -/

theorem test_wf_refuses_gb_other_leader : (Instr.gbOther 0xB5).wf = false := by decide
theorem test_wf_refuses_tk_other_talker : (Instr.tkOther 0x50).wf = false := by decide
theorem test_wf_refuses_range_offset : (Instr.chkXor8 (.out (2 ^ 32) 1)).wf = false := by decide
theorem test_wf_refuses_range_length : (Instr.chkXor8 (.out 0 (2 ^ 32))).wf = false := by decide
theorem test_wf_refuses_start : (Instr.bfxUbits (.imm []) (2 ^ 32) 1 false).wf = false := by decide
theorem test_wf_refuses_width : (Instr.bfxSbits (.imm []) 0 (2 ^ 32) false).wf = false := by decide
theorem test_wf_refuses_off : (Instr.bfxGetbeu16 (.imm []) (2 ^ 32)).wf = false := by decide
theorem test_wf_takes_largest : (Instr.bfxUbits (.out (2 ^ 32 - 1) 0) (2 ^ 32 - 1) 0 true).wf = true := by decide

/-! ## Decoding: a word of every row, written out from the tables of `30_encoding.md` R92, R95, R96 and `10_state.md` R35 -/

/-- The instruction decoded from bytes that it uses up. -/
def decoded (f : Format) (bs : List Byte) : Option Instr :=
  match decode f bs with
  | .ok (i, []) => some i
  | _ => none

theorem test_decode_commands : ([
    ([0x00], .lexInit),
    ([0x01, 0x01, 0x24, 0x01, 0x00, 0x00], .lexFeed [0x24, 0x00]),
    ([0x02], .lexParse),
    ([0x10, 0x00, 0x01, 0xAB, 0x00], .chkXor8 (.imm [0xAB])),
    ([0x11, 0x00, 0x01, 0xAB, 0x00], .chkCs8 (.imm [0xAB])),
    ([0x12, 0x00, 0x01, 0xAB, 0x00], .chkFletch8 (.imm [0xAB])),
    ([0x13, 0x00, 0x01, 0xAB, 0x00], .chkSum32 (.imm [0xAB])),
    ([0x14, 0x00, 0x01, 0xAB, 0x00], .chkXor32 (.imm [0xAB])),
    ([0x15, 0x00, 0x01, 0xAB, 0x00], .chkCrc24q (.imm [0xAB])),
    ([0x20, 0x01, 0x03, 0x00, 0x00, 0x00, 0x05, 0x01, 0x00, 0x00, 0x0E, 0x00, 0x00, 0x00, 0x0A, 0x00, 0x00, 0x00, 0x00], .bfxUbits (.out 3 261) 14 10 false),
    ([0x21, 0x01, 0x03, 0x00, 0x00, 0x00, 0x05, 0x01, 0x00, 0x00, 0x0E, 0x00, 0x00, 0x00, 0x0A, 0x00, 0x00, 0x00, 0x01], .bfxSbits (.out 3 261) 14 10 true),
    ([0x30, 0x00, 0x01, 0xAB, 0x00, 0x30, 0x02, 0x00, 0x00], .bfxGetbeu16 (.imm [0xAB]) 560),
    ([0x31, 0x00, 0x01, 0xAB, 0x00, 0x31, 0x02, 0x00, 0x00], .bfxGetbeu32 (.imm [0xAB]) 561),
    ([0x32, 0x00, 0x01, 0xAB, 0x00, 0x32, 0x02, 0x00, 0x00], .bfxGetbeu64 (.imm [0xAB]) 562),
    ([0x33, 0x00, 0x01, 0xAB, 0x00, 0x33, 0x02, 0x00, 0x00], .bfxGetbes16 (.imm [0xAB]) 563),
    ([0x34, 0x00, 0x01, 0xAB, 0x00, 0x34, 0x02, 0x00, 0x00], .bfxGetbes32 (.imm [0xAB]) 564),
    ([0x35, 0x00, 0x01, 0xAB, 0x00, 0x35, 0x02, 0x00, 0x00], .bfxGetbes64 (.imm [0xAB]) 565),
    ([0x36, 0x00, 0x01, 0xAB, 0x00, 0x36, 0x02, 0x00, 0x00], .bfxGetbef32 (.imm [0xAB]) 566),
    ([0x37, 0x00, 0x01, 0xAB, 0x00, 0x37, 0x02, 0x00, 0x00], .bfxGetbed64 (.imm [0xAB]) 567),
    ([0x38, 0x00, 0x01, 0xAB, 0x00, 0x38, 0x02, 0x00, 0x00], .bfxGetleu16 (.imm [0xAB]) 568),
    ([0x39, 0x00, 0x01, 0xAB, 0x00, 0x39, 0x02, 0x00, 0x00], .bfxGetleu32 (.imm [0xAB]) 569),
    ([0x3A, 0x00, 0x01, 0xAB, 0x00, 0x3A, 0x02, 0x00, 0x00], .bfxGetleu64 (.imm [0xAB]) 570),
    ([0x3B, 0x00, 0x01, 0xAB, 0x00, 0x3B, 0x02, 0x00, 0x00], .bfxGetles16 (.imm [0xAB]) 571),
    ([0x3C, 0x00, 0x01, 0xAB, 0x00, 0x3C, 0x02, 0x00, 0x00], .bfxGetles32 (.imm [0xAB]) 572),
    ([0x3D, 0x00, 0x01, 0xAB, 0x00, 0x3D, 0x02, 0x00, 0x00], .bfxGetles64 (.imm [0xAB]) 573),
    ([0x3E, 0x00, 0x01, 0xAB, 0x00, 0x3E, 0x02, 0x00, 0x00], .bfxGetlef32 (.imm [0xAB]) 574),
    ([0x3F, 0x00, 0x01, 0xAB, 0x00, 0x3F, 0x02, 0x00, 0x00], .bfxGetled64 (.imm [0xAB]) 575)] :
    List (List Byte × Instr)).all (fun p => decoded .cmd p.1 == some p.2) = true := by decide +kernel

theorem test_decode_ground_bytes : ([
    ([0x23], .gbComment),
    ([0x24], .gbNmea),
    ([0x21], .gbAis),
    ([0x7B], .gbJson),
    ([0xB5], .gbUbx),
    ([0xD3], .gbRtcm3),
    ([0xBA], .gbCasic),
    ([0xF1], .gbAllystar),
    ([0x01], .gbSuperstar2),
    ([0x02], .gbNavcom),
    ([0x10], .gbDle),
    ([0xFF], .gbZodiac),
    ([0xA0], .gbSirf),
    ([0x7E], .gbGreis),
    ([0x3C], .gbItalk),
    ([0x50], .gbGeostar),
    ([0x40], .gbAt),
    ([0x41], .gbOther 0x41)] :
    List (List Byte × Instr)).all (fun p => decoded .gb p.1 == some p.2) = true := by decide +kernel

theorem test_decode_talker_bytes : ([
    ([0x47], .tkG),
    ([0x50], .tkP),
    ([0x41], .tkA),
    ([0x42], .tkB),
    ([0x48], .tkH),
    ([0x49], .tkI),
    ([0x51], .tkQ),
    ([0x53], .tkS),
    ([0x54], .tkT),
    ([0x57], .tkW),
    ([0x59], .tkY),
    ([0x24], .tkOther 0x24)] :
    List (List Byte × Instr)).all (fun p => decoded .tk p.1 == some p.2) = true := by decide +kernel

theorem test_decode_states_0 : ([
    ([0x00, 0x80], .stGroundState 0x80),
    ([0x01, 0x81], .stCommentBody 0x81),
    ([0x02, 0x82], .stCommentRecognized 0x82),
    ([0x03, 0x83], .stNmeaDollar 0x83),
    ([0x04, 0x84], .stNmeaLeadG 0x84),
    ([0x05, 0x85], .stNmeaLeadA 0x85),
    ([0x06, 0x86], .stNmeaLeadB 0x86),
    ([0x07, 0x87], .stNmeaLeadH 0x87),
    ([0x08, 0x88], .stNmeaLeadI 0x88),
    ([0x09, 0x89], .stNmeaLeadQ 0x89),
    ([0x0A, 0x8A], .stNmeaLeadS 0x8A),
    ([0x0B, 0x8B], .stNmeaLeadT 0x8B),
    ([0x0C, 0x8C], .stNmeaLeadW 0x8C),
    ([0x0D, 0x8D], .stNmeaLeadY 0x8D),
    ([0x0E, 0x8E], .stNmeaVendorLead 0x8E),
    ([0x0F, 0x8F], .stNmeaPashrA 0x8F),
    ([0x10, 0x90], .stNmeaPashrS 0x90),
    ([0x11, 0x91], .stNmeaPashrH 0x91),
    ([0x12, 0x92], .stNmeaBinaryBody 0x92),
    ([0x13, 0x93], .stNmeaBinaryCr 0x93),
    ([0x14, 0x94], .stNmeaLeaderEnd 0x94),
    ([0x15, 0x95], .stNmeaCr 0x95),
    ([0x16, 0x96], .stNmeaRecognized 0x96),
    ([0x17, 0x97], .stNmeaBang 0x97),
    ([0x18, 0x98], .stAisLead1 0x98),
    ([0x19, 0x99], .stJsonBody 0x99),
    ([0x1A, 0x9A], .stJsonString 0x9A),
    ([0x1B, 0x9B], .stJsonEscape 0x9B),
    ([0x1C, 0x9C], .stJsonValue 0x9C)] :
    List (List Byte × Instr)).all (fun p => decoded .st p.1 == some p.2) = true := by decide +kernel

theorem test_decode_states_29 : ([
    ([0x1D, 0x9D], .stJsonRecognized 0x9D),
    ([0x1E, 0x9E], .stUbxLeader1 0x9E),
    ([0x1F, 0x9F], .stUbxLeader2 0x9F),
    ([0x20, 0xA0], .stUbxClassId 0xA0),
    ([0x21, 0xA1], .stUbxMessageId 0xA1),
    ([0x22, 0xA2], .stUbxLength1 0xA2),
    ([0x23, 0xA3], .stUbxLength2 0xA3),
    ([0x24, 0xA4], .stUbxPayload 0xA4),
    ([0x25, 0xA5], .stUbxChecksumA 0xA5),
    ([0x26, 0xA6], .stUbxRecognized 0xA6),
    ([0x27, 0xA7], .stAllyLeader1 0xA7),
    ([0x28, 0xA8], .stAllyLeader2 0xA8),
    ([0x29, 0xA9], .stAllyClassId 0xA9),
    ([0x2A, 0xAA], .stAllyMessageId 0xAA),
    ([0x2B, 0xAB], .stAllyLength1 0xAB),
    ([0x2C, 0xAC], .stAllyLength2 0xAC),
    ([0x2D, 0xAD], .stAllyPayload 0xAD),
    ([0x2E, 0xAE], .stAllyChecksumA 0xAE),
    ([0x2F, 0xAF], .stAllyRecognized 0xAF),
    ([0x30, 0xB0], .stCasicLeader1 0xB0),
    ([0x31, 0xB1], .stCasicLeader2 0xB1),
    ([0x32, 0xB2], .stCasicLength1 0xB2),
    ([0x33, 0xB3], .stCasicLength2 0xB3),
    ([0x34, 0xB4], .stCasicClassId 0xB4),
    ([0x35, 0xB5], .stCasicMessageId 0xB5),
    ([0x36, 0xB6], .stCasicPayload 0xB6),
    ([0x37, 0xB7], .stCasicChecksum1 0xB7),
    ([0x38, 0xB8], .stCasicChecksum2 0xB8),
    ([0x39, 0xB9], .stCasicChecksum3 0xB9)] :
    List (List Byte × Instr)).all (fun p => decoded .st p.1 == some p.2) = true := by decide +kernel

theorem test_decode_states_58 : ([
    ([0x3A, 0xBA], .stCasicRecognized 0xBA),
    ([0x3B, 0xBB], .stGeostarLeader1 0xBB),
    ([0x3C, 0xBC], .stGeostarLeader2 0xBC),
    ([0x3D, 0xBD], .stGeostarLeader3 0xBD),
    ([0x3E, 0xBE], .stGeostarLeader4 0xBE),
    ([0x3F, 0xBF], .stGeostarMessageId1 0xBF),
    ([0x40, 0xC0], .stGeostarMessageId2 0xC0),
    ([0x41, 0xC1], .stGeostarLength1 0xC1),
    ([0x42, 0xC2], .stGeostarLength2 0xC2),
    ([0x43, 0xC3], .stGeostarPayload 0xC3),
    ([0x44, 0xC4], .stGeostarChecksum1 0xC4),
    ([0x45, 0xC5], .stGeostarChecksum2 0xC5),
    ([0x46, 0xC6], .stGeostarChecksum3 0xC6),
    ([0x47, 0xC7], .stGeostarRecognized 0xC7),
    ([0x48, 0xC8], .stGreisId1 0xC8),
    ([0x49, 0xC9], .stGreisId2 0xC9),
    ([0x4A, 0xCA], .stGreisLength1 0xCA),
    ([0x4B, 0xCB], .stGreisLength2 0xCB),
    ([0x4C, 0xCC], .stGreisLength3 0xCC),
    ([0x4D, 0xCD], .stGreisPayload 0xCD),
    ([0x4E, 0xCE], .stGreisRecognized 0xCE),
    ([0x4F, 0xCF], .stRtcm3Leader1 0xCF),
    ([0x50, 0xD0], .stRtcm3Length1 0xD0),
    ([0x51, 0xD1], .stRtcm3Length2 0xD1),
    ([0x52, 0xD2], .stRtcm3Payload 0xD2),
    ([0x53, 0xD3], .stRtcm3Crc1 0xD3),
    ([0x54, 0xD4], .stRtcm3Crc2 0xD4),
    ([0x55, 0xD5], .stRtcm3Recognized 0xD5)] :
    List (List Byte × Instr)).all (fun p => decoded .st p.1 == some p.2) = true := by decide +kernel

theorem test_decode_rejects : decoded .cmd [0x03] = none ∧ decoded .cmd [0x16] = none ∧ decoded .cmd [0x40] = none ∧
    decoded .cmd [0x10, 2] = none ∧ decoded .cmd [0x01, 1] = none ∧ decoded .st [86, 0] = none ∧ decoded .gb [] = none := by
  decide

/-! ## Single steps, with results from the spec's examples -/

/-- The bytes of a buffer, from address 0. -/
def bytesAt0 (bs : List Byte) : Memory := Memory.writeBytes [] 0 bs

/-- The machine after reset with a state, a number of consumed bytes and the buffered bytes. -/
def machineAt (q : LexState) (rp : Nat) (bs : List Byte) : State :=
  { State.reset with state := q, rp := rp, inbuf := bytesAt0 bs, inlen := bs.length, source := .stream }

/-- The next state's projection, if there is one. -/
def after {α : Type} (o : Outcome) (f : State → α) : Option α :=
  match o with
  | .next t => some (f t)
  | _ => none

/-- The nine bytes `B` of `44_bit_extractor.md`. -/
def sampleB : Src := .imm [0x12, 0x34, 0x56, 0x78, 0x9A, 0xBC, 0xDE, 0xF0, 0x11]

/-- The example frame of `42_binary_chains.md` R240. -/
def ubxExample : List Byte := [0xB5, 0x62, 0x05, 0x01, 0x02, 0x00, 0x06, 0x01, 0x0F, 0x38]

/-- What a command returns from the state after reset. -/
def resultOf (i : Instr) : Option Result := after (exec i State.reset) State.result

-- 43_checksum_unit.md R302 to R307
theorem test_chk_xor8 : resultOf (.chkXor8 (.imm [0x47, 0x50, 0x47, 0x47, 0x41])) = some (.chk8 0x56 true) := by decide
theorem test_chk_cs8 : resultOf (.chkCs8 (.imm [0x01, 0x02])) = some (.chk8 0x18 true) := by decide
theorem test_chk_fletch8 : resultOf (.chkFletch8 (.imm [0x05, 0x01, 0x02, 0x00, 0x06, 0x01])) =
    some (.chkPair 0x0F 0x38 true) := by decide
theorem test_chk_sum32_wraps : resultOf (.chkSum32 (.imm [0xFF, 0xFF, 0xFF, 0xFF, 2, 0, 0, 0])) =
    some (.chk32 0x00000001 true) := by decide
theorem test_chk_sum32_length : resultOf (.chkSum32 (.imm [1, 2, 3])) = some (.chk32 0 false) := by decide
theorem test_chk_xor32 : resultOf (.chkXor32 (.imm [0xFF, 0xFF, 0xFF, 0xFF, 0x0F, 0x0F, 0x0F, 0x0F])) =
    some (.chk32 0xF0F0F0F0 true) := by decide
theorem test_chk_crc24q : resultOf (.chkCrc24q (.imm [0x31, 0x32, 0x33, 0x34, 0x35, 0x36, 0x37, 0x38, 0x39])) =
    some (.chk24 0xCDE703 true) := by decide +kernel

-- 44_bit_extractor.md R332, R333, R336 to R351
theorem test_bfx_ubits : resultOf (.bfxUbits sampleB 7 56 false) = some (.field 0x1A2B3C4D5E6F78 true) := by decide
theorem test_bfx_ubits_le : resultOf (.bfxUbits sampleB 4 24 true) = some (.field 0x674523 true) := by decide +kernel
theorem test_bfx_sbits : resultOf (.bfxSbits sampleB 32 4 false) = some (.field (-7) true) := by decide +kernel
theorem test_bfx_sbits_le : resultOf (.bfxSbits sampleB 32 16 true) = some (.field (-17254) true) := by decide +kernel
theorem test_bfx_getbeu16 : resultOf (.bfxGetbeu16 sampleB 0) = some (.field 0x1234 true) := by decide +kernel
theorem test_bfx_getbeu32 : resultOf (.bfxGetbeu32 sampleB 1) = some (.field 0x3456789A true) := by decide +kernel
theorem test_bfx_getbeu64 : resultOf (.bfxGetbeu64 sampleB 0) = some (.field 0x123456789ABCDEF0 true) := by decide +kernel
theorem test_bfx_getbes16 : resultOf (.bfxGetbes16 sampleB 4) = some (.field (-25924) true) := by decide +kernel
theorem test_bfx_getbes32 : resultOf (.bfxGetbes32 sampleB 4) = some (.field (-1698898192) true) := by decide +kernel
theorem test_bfx_getbes64 : resultOf (.bfxGetbes64 sampleB 1) = some (.field 0x3456789ABCDEF011 true) := by decide +kernel
theorem test_bfx_getbef32 : resultOf (.bfxGetbef32 (.imm [0x3F, 0x80, 0, 0]) 0) = some (.field 0x3F800000 true) := by decide +kernel
theorem test_bfx_getbed64 : resultOf (.bfxGetbed64 (.imm [0x3F, 0xF0, 0, 0, 0, 0, 0, 0]) 0) =
    some (.field 0x3FF0000000000000 true) := by decide
theorem test_bfx_getleu16 : resultOf (.bfxGetleu16 sampleB 0) = some (.field 0x3412 true) := by decide +kernel
theorem test_bfx_getleu32 : resultOf (.bfxGetleu32 sampleB 1) = some (.field 0x9A785634 true) := by decide +kernel
theorem test_bfx_getleu64 : resultOf (.bfxGetleu64 sampleB 0) = some (.field 0xF0DEBC9A78563412 true) := by decide +kernel
theorem test_bfx_getles16 : resultOf (.bfxGetles16 sampleB 4) = some (.field (-17254) true) := by decide +kernel
theorem test_bfx_getles32 : resultOf (.bfxGetles32 sampleB 4) = some (.field (-253838182) true) := by decide +kernel
theorem test_bfx_getles64 : resultOf (.bfxGetles64 sampleB 0) = some (.field (-1090226688147180526) true) := by decide +kernel
theorem test_bfx_getlef32 : resultOf (.bfxGetlef32 (.imm [0, 0, 0x80, 0x3F]) 0) = some (.field 0x3F800000 true) := by decide +kernel
theorem test_bfx_getled64 : resultOf (.bfxGetled64 (.imm [0, 0, 0, 0, 0, 0, 0xF0, 0x3F]) 0) =
    some (.field 0x3FF0000000000000 true) := by decide
theorem test_bfx_past_the_end : resultOf (.bfxUbits sampleB 20 56 false) = some (.field 0 false) := by decide

-- 40_lexer_core.md R131, R134, R145
theorem test_parse_accepts_ubx : after (exec .lexParse (machineAt .groundState 0 ubxExample))
    (fun t => (t.result, t.state, t.inlen, t.outlen)) = some (.parse .ubx 10 false, .ubxRecognized, 0, 10) := by
  decide +kernel
theorem test_parse_bad_ubx : after (exec .lexParse (machineAt .groundState 0 (ubxExample.set 9 0x39)))
    (fun t => (t.result, t.state, t.inlen, t.outlen)) = some (.parse .bad 0 false, .groundState, 0, 0) := by
  decide +kernel
theorem test_init : after (exec .lexInit (machineAt .ubxPayload 3 ubxExample)) (fun t => (t.state, t.inlen, t.rp)) =
    some (.groundState, 0, 0) := by decide

-- 40_lexer_core.md R139: candidate `$G`, then byte 0x00
theorem test_framing_discards_the_candidate : after (exec (.stNmeaLeadG 0x00) (machineAt .nmeaLeadG 2 [0x24, 0x47, 0x00]))
    (fun t => (t.state, t.inlen, t.rp, t.inByte 0, t.log)) =
      some (.groundState, 1, 0, 0x00, [⟨.low, .framing⟩]) := by decide
-- 41_text_chains.md R191: `!AQ` pushes back at the `Q`; R197: a value ends at `,`
theorem test_ais_prefix_refused : after (exec (.stAisLead1 0x51) (machineAt .aisLead1 2 [0x21, 0x41, 0x51]))
    (fun t => (t.state, t.inlen)) = some (.groundState, 1) := by decide
theorem test_ais_prefix_taken : after (exec (.stAisLead1 0x49) (machineAt .aisLead1 2 [0x21, 0x41, 0x49]))
    (fun t => (t.state, t.rp)) = some (.nmeaLeaderEnd, 3) := by decide
theorem test_json_value_ends : after (exec (.stJsonValue 0x2C) (machineAt .jsonValue 2 [0x7B, 0x31, 0x2C]))
    (fun t => (t.state, t.rp, t.counter, t.log)) = some (.jsonBody, 2, 0, []) := by decide
-- 42_binary_chains.md R235, R253, R285
theorem test_ubx_length_over_the_maximum : after (exec (.stUbxLength1 0xFF)
    { machineAt .ubxLength1 5 [0xB5, 0x62, 1, 2, 0xFF, 0xFF, 0x00] with pending := 0xFF })
    (fun t => (t.result, t.inlen, t.log)) = some (.parse .none 0 true, 0, [⟨.high, .length⟩]) := by decide
theorem test_casic_length_not_multiple_of_four : after (exec (.stCasicLength1 0x00)
    { machineAt .casicLength1 3 [0xBA, 0xCE, 0x03, 0x00] with pending := 3 })
    (fun t => (t.state, t.inlen, t.log)) = some (.groundState, 1, [⟨.low, .framing⟩]) := by decide
theorem test_rtcm3_reserved_bits : after (exec (.stRtcm3Leader1 0xFC) (machineAt .rtcm3Leader1 1 [0xD3, 0xFC]))
    (fun t => (t.state, t.inByte 0)) = some (.groundState, 0xFC) := by decide
-- 42_binary_chains.md R250, R262, R276, R284, R292; 41_text_chains.md R176, R187, R189
theorem test_validate_allystar : validateAllystar (0xF1 :: 0xD9 :: ubxExample.drop 2) = .accept .allystar 10 := by decide
theorem test_validate_casic : validateCasic [0xBA, 0xCE, 4, 0, 5, 1, 6, 1, 0, 0, 0x0A, 1, 5, 1] = .accept .casic 14 := by
  decide
theorem test_validate_geostar : validateGeostar
    [0x50, 0x53, 0x47, 0x47, 0x20, 0, 1, 0, 0x78, 0x56, 0x34, 0x12, 0x08, 0x05, 0x72, 0x55] = .accept .geostar 16 := by
  decide
theorem test_validate_greis : validateGreis [0x7E, 0x7E, 0x30, 0x30, 0x35, 0x10, 0x27, 0, 0, 0x85] = .accept .greis 10 := by
  decide
theorem test_validate_rtcm3 : validateRtcm3 [0xD3, 0, 0, 0x47, 0xEA, 0x4B] = .accept .rtcm3 6 := by decide +kernel
theorem test_validate_comment : validateComment [0x23, 0x0A] = .accept .comment 1 := by decide
theorem test_validate_nmea_lowercase : validateNmea Config.baseline
    [0x24, 0x47, 0x50, 0x47, 0x47, 0x41, 0x2A, 0x35, 0x62, 0x0A] = .bad := by decide
theorem test_validate_nmea_exempt : validateNmea Config.baseline
    [0x24, 0x53, 0x54, 0x49, 0x2C, 0x30, 0x30, 0x31, 0x2A, 0x46, 0x46, 0x0D, 0x0A] = .accept .nmea 11 := by decide

/-! ## The words of the opcode table, where the step fetches -/

theorem test_table_word_command : decodeTableWord 8 0x02 = some .lexParse := by decide
theorem test_table_word_state : decodeTableWord 8 0x2D = some (.stAllyPayload 0x00) := by decide +kernel
theorem test_table_word_steps : after (step (State.reset.withFetchWord 8 0xB5)) (fun t => (t.state, t.rp)) =
    some (.ubxLeader1, 1) := by decide +kernel

/-! ## Cases that meet the hypotheses of the statements -/

theorem bytesAt0_byteAt? (bs : List Byte) (i : Nat) : (bytesAt0 bs).byteAt? i = bs[i]? := by
  simp only [bytesAt0, Memory.byteAt?_writeBytes, Memory.byteAt?_nil]
  split
  · simp
  · rw [List.getElem?_eq_none (by omega)]

/-- The invariant of a machine whose input buffer holds given bytes and whose output slot is empty. -/
theorem inv_of {s : State} (bs : List Byte) (hin : s.inbuf = bytesAt0 bs) (hlen : s.inlen = bs.length)
    (hout : s.outbuf = [(0, 0x00)]) (hol : s.outlen = 0) (hty : s.type = .none) (hc : s.cfg.wf)
    (hp : s.rp ≤ s.inlen ∧ s.inlen ≤ s.cfg.inCap)
    (hi : s.state.isIdle = true → s.pending = 0 ∧ s.jsonDepth = 0 ∧ s.rp = 0)
    (hn : s.pending ≤ s.state.pendingMax ∧ s.jsonDepth ≤ s.rp ∧ (s.state.isJson = true → 1 ≤ s.jsonDepth) ∧
      (s.state = .greisLength3 ∨ s.state = .greisPayload → 1 ≤ s.pending))
    (hb : s.state.isBranch = false := by rfl) : s.Inv where
  cfg := hc
  pointers := hp
  input := by
    refine ⟨by rw [hin]; exact Memory.wf_writeBytes _ _ _ (by decide), fun i => ?_⟩
    rw [hin, bytesAt0_byteAt?, hlen]
    by_cases h : i < bs.length <;> simp [h]
  output := by
    refine ⟨by rw [hout]; decide, fun i => ?_, by rw [hout, hol]; decide, by rw [hol]; exact Nat.zero_le _,
      by rw [hol]; exact Nat.zero_le _, by rw [hty]; decide⟩
    rw [hout, hol, Memory.byteAt?_cons]
    by_cases h : 0 = i
    · subst h; rfl
    · simp [h]; omega
  idle := hi
  counts := hn
  baseline := hb

/-- The place of a candidate in its frame, from its parts. -/
theorem frameOk_of {s : State} (h1 : ∀ ls ∈ s.state.leaders, s.inByte 0 ∈ ls) (h2 : s.state.offset.1 ≤ s.rp)
    (h3 : s.state.offset.2 = true → s.rp = s.state.offset.1)
    (h4 : ∀ k ∈ s.state.remaining, s.rp + s.pending + k ≤ s.cfg.maxPacketLength)
    (h5 : s.state.isTrailer = true → s.pending = 0)
    (h6 : ∀ k ∈ s.state.remaining, ∀ r ∈ s.state.wordPhase, (s.rp + s.pending + k) % 4 = r) : s.FrameOk where
  leader ls h := h1 ls h
  atLeast := h2
  exact := h3
  declared k h := h4 k h
  trailer := h5
  words k r hk hr := h6 k hk r hr

/-- A frame in the input buffer of the machine after reset. -/
theorem stands_at (frame rest : List Byte) (h : (frame ++ rest).length ≤ 18433) :
    (machineAt .groundState 0 (frame ++ rest)).StandsAt frame rest where
  inv := inv_of (frame ++ rest) rfl rfl rfl rfl rfl (show Config.baseline.wf by decide) ⟨Nat.zero_le _, h⟩
    (fun _ => ⟨rfl, rfl, rfl⟩) ⟨Nat.zero_le _, Nat.le_refl 0, nofun, nofun⟩
  idle := rfl
  notGreis := nofun
  bytes := by
    refine List.ext_getElem? fun i => ?_
    by_cases hi : i < (frame ++ rest).length
    · have hb : (bytesAt0 (frame ++ rest)).byteAt? i = some (frame ++ rest)[i] := by
        rw [bytesAt0_byteAt?, List.getElem?_eq_getElem hi]
      have : (machineAt .groundState 0 (frame ++ rest)).inByte i = (frame ++ rest)[i] :=
        readByte_of_byteAt? _ _ _ _ _ hi hb
      have hr : (List.range (machineAt .groundState 0 (frame ++ rest)).inlen)[i]? = some i :=
        List.getElem?_range hi
      rw [List.getElem?_eq_getElem hi, State.inRange, List.getElem?_map, hr]
      simp [this]
    · rw [List.getElem?_eq_none (by simp [machineAt] at hi ⊢; omega), List.getElem?_eq_none (by omega)]

/-- A configuration with the smallest capacities the parameters allow (`00_scope.md` R7, R8). -/
def smallest : Config := { Config.baseline with maxPacketLength := 16, inCap := 17, outCap := 17 }

/-- A comment as long as the smallest input buffer, all of it consumed. -/
def fullComment : List Byte := 0x23 :: List.replicate 16 0x61

/-- A comment longer than the smallest `MAX_PACKET_LENGTH`... up to its line end, which is not consumed. -/
def longComment : State :=
  { machineAt .commentBody 17 (0x23 :: List.replicate 16 0x61 ++ [0x0A]) with
    cfg := { smallest with inCap := 18 } }

theorem test_witness_init_options :
    (∃ s : State, s.cfg.stashEn = true ∧ s.cfg.chainEn.getLsbD 17 = true ∧ 0 < s.cfg.inCap) ∧
      ∃ s : State, s.cfg.stashEn = false ∧ s.cfg.chainEn.getLsbD 17 = false ∧ s.cfg.inCap = 1 :=
  ⟨⟨{ State.reset with cfg := { Config.baseline with stashEn := true, chainEn := 0x3FFFF } }, by decide⟩,
    ⟨{ State.reset with cfg := { Config.baseline with inCap := 1 } }, by decide⟩⟩

theorem test_witness_feed_partly : ∃ (s : State) (bytes : List Byte), s.inlen + 1 = s.cfg.inCap ∧ bytes.length = 2 :=
  ⟨{ machineAt .commentBody 16 (0x23 :: List.replicate 15 0x61) with cfg := smallest }, [0x61, 0x61], by decide⟩

theorem test_witness_exhausted_full : ∃ s : State, s.rp = s.inlen ∧ s.inlen = s.cfg.inCap ∧ s.Inv :=
  ⟨{ machineAt .commentBody 17 fullComment with cfg := smallest }, by decide, by decide,
    inv_of fullComment rfl rfl rfl rfl rfl (by decide) (by decide) (by decide) (by decide)⟩

theorem test_witness_exhausted_fragment : ∃ s : State, s.rp = s.inlen ∧ s.inlen ≠ s.cfg.inCap ∧ s.Inv :=
  ⟨machineAt .groundState 0 [], by decide, by decide,
    inv_of [] rfl rfl rfl rfl rfl (by decide) (by decide) (by decide) (by decide)⟩

theorem test_witness_parse : ∃ s t : State, s.Inv ∧ s.FrameOk ∧ exec .lexParse s = .next t ∧
    t.result = .parse .comment 1 false :=
  ⟨machineAt .commentBody 1 [0x23, 0x0A], _,
    inv_of [0x23, 0x0A] rfl rfl rfl rfl rfl (by decide) (by decide) (by decide) (by decide),
    frameOk_of (by decide) (by decide) (by decide) (by decide) (by decide) (by decide), rfl, rfl⟩

theorem test_witness_resume : ∃ (s t u v : State) (bytes : List Byte), s.Inv ∧ s.FrameOk ∧
    s.inlen + bytes.length ≤ s.cfg.inCap ∧ exec .lexParse s = .next t ∧ t.result = .parse .none 0 false ∧
    exec (.lexFeed bytes) t = .next u ∧ exec (.lexFeed bytes) s = .next v :=
  ⟨machineAt .groundState 0 [0x23], _, _, _, [0x0A],
    inv_of [0x23] rfl rfl rfl rfl rfl (by decide) (by decide) (by decide) (by decide),
    frameOk_of (by decide) (by decide) (by decide) (by decide) (by decide) (by decide),
    by decide, rfl, rfl, rfl, rfl⟩

theorem test_witness_truncated :
    ∀ p ∈ [(LexState.ubxLength2, LexState.ubxPayload), (.ubxPayload, .ubxPayload), (.allyLength2, .allyPayload),
      (.allyPayload, .allyPayload), (.casicMessageId, .casicPayload), (.casicPayload, .casicPayload),
      (.geostarLength2, .geostarPayload), (.geostarPayload, .geostarPayload), (.greisLength3, .greisPayload),
      (.greisPayload, .greisPayload), (.rtcm3Length2, .rtcm3Payload), (.rtcm3Payload, .rtcm3Payload)],
    ∃ s : State, s.cfg.stashEn = false ∧ s.state = p.1 ∧ s.rp < s.inlen ∧ s.inlen ≠ s.cfg.inCap ∧
      s.inlen - s.rp ≤ s.pending ∧ (p.2 = .greisPayload → s.inlen - s.rp < s.pending) :=
  fun p _ => ⟨{ machineAt p.1 1 [0xB5, 0x24] with pending := 2 }, rfl, rfl, (by decide : 1 < 2),
    (by decide : 2 ≠ Config.baseline.inCap), (by decide : 2 - 1 ≤ 2), fun _ => (by decide : 2 - 1 < 2)⟩

theorem test_witness_ubx_frame : ∃ (s : State) (cls id : Byte) (rest : List Byte),
    s.cfg.chainEn.getLsbD 4 = true ∧ 8 ≤ s.cfg.maxPacketLength ∧
      s.StandsAt (fletcherFrame 0xB5 0x62 cls id []) rest :=
  ⟨_, 5, 1, [0x24], by decide, by decide, stands_at (fletcherFrame 0xB5 0x62 5 1 []) [0x24] (by decide)⟩

theorem test_witness_allystar_frame : ∃ (s : State) (cls id : Byte) (rest : List Byte),
    s.cfg.chainEn.getLsbD 7 = true ∧ 8 ≤ s.cfg.maxPacketLength ∧
      s.StandsAt (fletcherFrame 0xF1 0xD9 cls id []) rest :=
  ⟨_, 5, 1, [], by decide, by decide, stands_at (fletcherFrame 0xF1 0xD9 5 1 []) [] (by decide)⟩

theorem test_witness_casic_frame : ∃ (s : State) (cls id : Byte) (rest : List Byte),
    s.cfg.chainEn.getLsbD 6 = true ∧ 10 ≤ s.cfg.maxPacketLength ∧ s.StandsAt (casicFrame cls id []) rest :=
  ⟨_, 5, 1, [], by decide, by decide, stands_at (casicFrame 5 1 []) [] (by decide)⟩

theorem test_witness_geostar_frame : ∃ (s : State) (x y : Byte) (rest : List Byte),
    s.cfg.chainEn.getLsbD 15 = true ∧ 12 ≤ s.cfg.maxPacketLength ∧ s.StandsAt (geostarFrame x y []) rest :=
  ⟨_, 0x20, 0, [], by decide, by decide, stands_at (geostarFrame 0x20 0 []) [] (by decide)⟩

theorem test_witness_rtcm3_frame : ∃ (s : State) (rest : List Byte),
    s.cfg.chainEn.getLsbD 5 = true ∧ 6 ≤ s.cfg.maxPacketLength ∧ s.StandsAt (rtcm3Frame []) rest :=
  ⟨_, [], by decide, by decide, stands_at (rtcm3Frame []) [] (by decide)⟩

theorem test_witness_greis_frame : ∃ (s : State) (id2 : Byte) (rest : List Byte),
    s.cfg.chainEn.getLsbD 13 = true ∧ isGreisId id2 = true ∧ 6 ≤ s.cfg.maxPacketLength ∧
      s.StandsAt (greisFrame id2 []) rest :=
  ⟨_, 0x7E, [], by decide, by decide, by decide, stands_at (greisFrame 0x7E []) [] (by decide)⟩

theorem test_witness_nmea_sentence : ∃ (s : State) (x y : Byte) (rest : List Byte),
    s.cfg.chainEn.getLsbD 1 = true ∧ x ∈ Config.talkerFirsts ∧ (∃ p ∈ s.cfg.talker2, p.1 = x ∧ y ∈ p.2) ∧
      6 ≤ s.cfg.maxPacketLength ∧ s.StandsAt (nmeaSentence (x :: y :: []) ++ [0x0D, 0x0A]) rest :=
  ⟨_, 0x47, 0x5A, [], by decide, by decide, by decide, by decide,
    stands_at (nmeaSentence (0x47 :: 0x5A :: []) ++ [0x0D, 0x0A]) [] (by decide)⟩

theorem test_witness_step : ∃ s t : State, s.Inv ∧ s.FrameOk ∧ s.source = .stream ∧ s.rp < s.inlen ∧
    step s = .next t :=
  ⟨machineAt .ubxLeader1 1 [0xB5, 0x62], _,
    inv_of [0xB5, 0x62] rfl rfl rfl rfl rfl (by decide) (by decide) (by decide) (by decide),
    frameOk_of (by decide) (by decide) (by decide) (by decide) (by decide) (by decide), rfl, by decide, rfl⟩

/-- The first iteration of a sentence with the stash switched on: the machine goes on (`10_state.md` R33). -/
def stashOnAtDollar : State :=
  { machineAt .groundState 0 [0x24] with cfg := { Config.baseline with stashEn := true } }

theorem test_stash_on_goes_on : after (exec .gbNmea stashOnAtDollar) (fun t => (t.counter, t.outlen, t.log)) =
    some (1, 0, []) := by rfl

theorem test_witness_writer_stash : ∃ (i : Instr) (s t : State), i ≠ .lexInit ∧ s.cfg.stashEn = true ∧
    (encode i).1 = .cmd ∧ i ≠ .lexParse ∧ exec i s = .next t :=
  ⟨.lexFeed [0x24], stashOnAtDollar, _, by decide, rfl, rfl, by decide, rfl⟩

theorem test_witness_writer : ∃ (i : Instr) (s t : State), i ≠ .lexInit ∧ exec i s = .next t :=
  ⟨.lexFeed [0x24], State.reset, _, by decide, rfl⟩

theorem test_witness_oversize : ∃ s t : State, s.Inv ∧ s.FrameOk ∧ s.source = .stream ∧ step s = .next t ∧
    t.log = s.log ++ [⟨.high, .oversize⟩] :=
  ⟨longComment, _,
    inv_of (0x23 :: List.replicate 16 0x61 ++ [0x0A]) rfl rfl rfl rfl rfl (by decide) (by decide) (by decide)
      (by decide),
    frameOk_of (by decide) (by decide) (by decide) (by decide) (by decide) (by decide), rfl, rfl, rfl⟩

theorem test_witness_casic_trailer : ∃ s : State, s.Inv ∧ s.FrameOk ∧ s.state = .casicChecksum3 :=
  ⟨machineAt .casicChecksum3 9 ((casicFrame 5 1 []).take 9),
    inv_of ((casicFrame 5 1 []).take 9) rfl rfl rfl rfl rfl (by decide) (by decide) (by decide) (by decide),
    frameOk_of (by decide) (by decide) (by decide) (by decide) (by decide) (by decide), rfl⟩

theorem test_witness_geostar_trailer : ∃ s : State, s.Inv ∧ s.FrameOk ∧ s.state = .geostarChecksum3 :=
  ⟨machineAt .geostarChecksum3 11 ((geostarFrame 0x20 0 []).take 11),
    inv_of ((geostarFrame 0x20 0 []).take 11) rfl rfl rfl rfl rfl (by decide) (by decide) (by decide) (by decide),
    frameOk_of (by decide) (by decide) (by decide) (by decide) (by decide) (by decide), rfl⟩

theorem test_witness_new_packet_start : ∃ s : State, s.Ready ∧
    (∀ p ∈ s.cfg.talker2, (0x24 : Byte) ∉ p.2 ∧ (0x7B : Byte) ∉ p.2) ∧
    (∀ p ∈ s.cfg.aisPrefix, p.1 ≠ 0x24 ∧ p.2 ≠ 0x24 ∧ p.1 ≠ 0x7B ∧ p.2 ≠ 0x7B) ∧
    s.inbuf.byteAt? s.rp = some 0x24 :=
  ⟨machineAt .nmeaCr 4 [0x24, 0x47, 0x50, 0x0D, 0x24], by unfold State.Ready; decide,
    fun p hp => by
      obtain ⟨x, _, rfl⟩ := List.mem_map.mp hp
      exact (by decide : (0x24 : Byte) ∉ Config.upperLetters ∧ (0x7B : Byte) ∉ Config.upperLetters),
    by simp [machineAt, State.reset, Config.baseline], by decide⟩

theorem test_witness_chains_on : ∃ s : State, s.Ready ∧ ∀ k < 18, s.cfg.chainEn.getLsbD k = true :=
  ⟨{ machineAt .groundState 0 [0x24] with cfg := { Config.baseline with chainEn := 0x3FFFF } },
    by unfold State.Ready; decide, by decide⟩

theorem test_witness_chains_off : ∃ s : State, s.Ready ∧ ∀ k < 18, s.cfg.chainEn.getLsbD k = false :=
  ⟨{ machineAt .groundState 0 [0x24] with cfg := { Config.baseline with chainEn := 0 } },
    by unfold State.Ready; decide, by decide⟩

theorem test_witness_rtcm2_alone : ∃ s : State, s.Ready ∧ s.cfg.chainEn.getLsbD 17 = true ∧
    ∀ k < 17, s.cfg.chainEn.getLsbD k = false :=
  ⟨{ machineAt .groundState 0 [0x24] with cfg := { Config.baseline with chainEn := 0x20000 } },
    by unfold State.Ready; decide, by decide, by decide⟩

/-- A byte within a `LEX.PARSE` in a state of the RTCM2 branch (`42_binary_chains.md` R295). -/
def inRtcm2Branch : State :=
  { machineAt (.branch .rtcm2 0) 1 [0x66, 0x59] with cfg := { Config.baseline with chainEn := 0x20000 } }

theorem test_witness_branch : inRtcm2Branch.Ready ∧ inRtcm2Branch.source = .stream ∧
    inRtcm2Branch.state = .branch .rtcm2 0 ∧ inRtcm2Branch.rp ≠ inRtcm2Branch.inlen := by
  unfold State.Ready; decide

theorem test_open_leader_enters_branch :
    after (exec .gbZodiac { machineAt .groundState 0 [0xFF] with cfg := { Config.baseline with chainEn := 0x800 } })
      (fun t => (t.state.isBranch, t.rp, t.counter)) = some (true, 1, 1) := by decide

theorem test_witness_other_bytes : (0x00 : Byte) ∉ groundLeaders ∧ (0xFE : Byte) ∉ groundLeaders ∧
    (0x24 : Byte) ∉ talkerBytes ∧ (0x5A : Byte) ∉ talkerBytes := by decide

theorem test_witness_talker_and_prefix : ∃ s : State, s.Ready ∧ (∃ e ∈ s.cfg.talker2, e.1 = 0x59 ∧ 0x5A ∈ e.2) ∧
    (¬∃ e ∈ s.cfg.talker2, e.1 = 0x59 ∧ 0x5B ∈ e.2) ∧ (∃ p ∈ s.cfg.aisPrefix, p.1 = 0x53) ∧
    (¬∃ p ∈ s.cfg.aisPrefix, p.1 = 0x54) ∧ (s.inByte 1, (0x41 : Byte)) ∈ s.cfg.aisPrefix ∧
    (s.inByte 1, (0x42 : Byte)) ∉ s.cfg.aisPrefix :=
  ⟨machineAt .aisLead1 2 [0x21, 0x53, 0x41], by unfold State.Ready; decide, by decide, by decide, by decide, by decide,
    by decide, by decide⟩

theorem test_witness_comment_classes : ∀ c ∈ [(0x20 : Byte), 0x7E], 0x20 ≤ c ∧ c ≤ 0x7E := by decide

theorem test_witness_json_classes :
    (∀ c ∈ [(0x30 : Byte), 0x39], 0x30 ≤ c ∧ c ≤ 0x39) ∧
      (0x24 : Byte) ∉ [(0x7B : Byte), 0x5B, 0x7D, 0x5D, 0x22, 0x20, 0x09, 0x0A, 0x0D, 0x2C, 0x3A, 0x2D, 0x74, 0x66, 0x6E] ∧
      ¬((0x30 : Byte) ≤ 0x24 ∧ (0x24 : Byte) ≤ 0x39) := by decide

theorem test_witness_greis_not_a_digit : ∀ c ∈ [(0x2F : Byte), 0x3A, 0x40, 0x47, 0x61], ∀ d < 16, c ≠ hexChar d := by
  decide

theorem test_witness_sentence_exempt : ∃ sent eol : List Byte, (∀ c ∈ eol, c = 0x0D ∨ c = 0x0A) ∧
    (∀ c ∈ sent.getLast?, c ≠ 0x0D ∧ c ≠ 0x0A) ∧ ∃ p ∈ Config.baseline.nmeaExempt, p <+: sent :=
  ⟨[0x24, 0x53, 0x54, 0x49, 0x2C], [0x0D, 0x0A], by decide, by decide, by decide⟩

theorem test_witness_sentence_checked : ∃ (sent eol span : List Byte) (lead h l : Byte),
    (∀ c ∈ eol, c = 0x0D ∨ c = 0x0A) ∧ (∀ c ∈ sent.getLast?, c ≠ 0x0D ∧ c ≠ 0x0A) ∧
    (¬∃ p ∈ Config.baseline.nmeaExempt, p <+: sent) ∧ sent = lead :: span ++ [0x2A, h, l] :=
  ⟨[0x24, 0x2A, 0x30, 0x30], [0x0A], [], 0x24, 0x30, 0x30, by decide, by decide, by decide, by decide⟩

theorem test_witness_sentence_unchecked : ∃ sent eol : List Byte, (∀ c ∈ eol, c = 0x0D ∨ c = 0x0A) ∧
    (∀ c ∈ sent.getLast?, c ≠ 0x0D ∧ c ≠ 0x0A) ∧ (¬∃ p ∈ Config.baseline.nmeaExempt, p <+: sent) ∧
    ¬∃ lead span h l, sent = lead :: span ++ [0x2A, h, l] := by
  refine ⟨[0x24, 0x47, 0x50], [0x0A], by decide, by decide, by decide, ?_⟩
  rintro ⟨lead, span, h, l, e⟩
  have := congrArg List.length e
  simp at this

theorem test_witness_source : ∃ s : State, s.resolve (.out 0 0) = some [] ∧ s.resolve (.out 0 1) = none ∧
    s.resolve (.imm [1, 2, 3]) = some [1, 2, 3] ∧ s.resolve (.imm [1, 2, 3, 4]) = some [1, 2, 3, 4] :=
  ⟨State.reset, by decide⟩

theorem test_witness_byte_flip_fletcher :
    validateUbx ubxExample = .accept .ubx ubxExample.length ∧
      validateAllystar ubxExample = .accept .allystar ubxExample.length ∧ ubxExample.getD 2 0 ≠ 0 ∧
      ubxExample.getD 9 0 ≠ 0 := by decide

theorem test_witness_byte_flip_words :
    validateCasic (casicFrame 5 1 [6, 1, 0, 0]) = .accept .casic (casicFrame 5 1 [6, 1, 0, 0]).length ∧
      validateGeostar (geostarFrame 0x20 0 []) = .accept .geostar (geostarFrame 0x20 0 []).length := by decide

theorem test_witness_byte_flip_greis_rtcm3 :
    greisExempt (greisFrame 0x7E []) = false ∧
      validateGreis (greisFrame 0x7E []) = .accept .greis (greisFrame 0x7E []).length ∧
      validateRtcm3 (rtcm3Frame []) = .accept .rtcm3 (rtcm3Frame []).length := by decide +kernel

theorem test_witness_byte_flip_nmea : ∃ (sent eol : List Byte) (i : Nat) (b : Byte), i < (sent ++ eol).length ∧
    (sent ++ eol).getD i 0 ≠ b ∧ 1 ≤ i ∧ i < sent.length ∧ (∀ c ∈ eol, c = 0x0D ∨ c = 0x0A) ∧
    (∀ c ∈ sent.getLast?, c ≠ 0x0D ∧ c ≠ 0x0A) ∧ (∀ c ∈ (sent.set i b).getLast?, c ≠ 0x0D ∧ c ≠ 0x0A) ∧
    4 ≤ sent.length ∧ sent[sent.length - 3]? = some 0x2A ∧ i ≠ sent.length - 3 ∧
    (∀ p ∈ Config.baseline.nmeaExempt, ¬p <+: sent) ∧ (∀ p ∈ Config.baseline.nmeaExempt, ¬p <+: sent.set i b) ∧
    validateNmea Config.baseline (sent ++ eol) = .accept .nmea sent.length :=
  ⟨nmeaSentence [0x47, 0x50], [0x0A], 1, 0x41, by decide⟩

theorem test_witness_checksum_words : ([] : List Byte).length % 4 = 0 ∧ [(1 : Byte), 2, 3, 4].length % 4 = 0 ∧
    [(1 : Byte)].length % 4 ≠ 0 := by decide

theorem test_witness_crc_zero : crc24q ([0xD3, 0, 0] ++ [0x47, 0xEA, 0x4B]) = 0 := by decide +kernel

theorem test_witness_field_bounds : ∃ (s : State) (v : List Byte), s.resolve (.imm v) = some v ∧
    7 + 56 ≤ 8 * v.length ∧ 0 + 1 ≤ 8 * v.length ∧ ubits v 7 56 false ≠ none ∧ ubits v 0 56 true ≠ none ∧
    8 * v.length < 17 + 56 ∧ v.length < 2 + 8 ∧ 1 + 8 ≤ v.length :=
  ⟨State.reset, [0x12, 0x34, 0x56, 0x78, 0x9A, 0xBC, 0xDE, 0xF0, 0x11], by decide⟩

theorem test_witness_well_formed : (Instr.bfxUbits (.out 0 25) 14 10 false).wf = true ∧ (Instr.gbOther 0x00).wf = true ∧
    (Instr.tkOther 0x00).wf = true ∧ (Instr.stGroundState 0xFF).wf = true := by decide

theorem test_witness_host_command : ∃ (s : State) (i : Instr), s.source = .host ∧ s.port = [[0x02]] ∧
    decode .cmd [0x02] = .ok (i, []) := ⟨{ State.reset with port := [[0x02]] }, .lexParse, rfl, rfl, rfl⟩

theorem test_witness_stream : (∃ s : State, s.source = .stream ∧ s.rp ≠ s.inlen) ∧
    (∃ s : State, s.source = .stream ∧ s.rp = s.inlen) ∧ ∃ s : State, s.source = .host ∧ s.port = [] :=
  ⟨⟨machineAt .groundState 0 [0x24], by decide⟩, ⟨machineAt .groundState 0 [], by decide⟩, ⟨State.reset, by decide⟩⟩

theorem test_witness_illegal : ∀ op ∈ [(0x03 : Byte), 0x0F, 0x16, 0x1F, 0x22, 0x2F, 0x40, 0xFF],
    ((0x03 ≤ op ∧ op ≤ 0x0F) ∨ (0x16 ≤ op ∧ op ≤ 0x1F) ∨ (0x22 ≤ op ∧ op ≤ 0x2F) ∨ 0x40 ≤ op) ∧
      ∃ s : State, s.source = .host ∧ s.port = [[op]] :=
  fun op h => ⟨by revert op; decide, { State.reset with port := [[op]] }, rfl, rfl⟩

end Sys2Proof.Tests
end

section
/-! PROOFS. What `step` runs: one equation per case of the fetch, and the obligation assembled from them. -/

namespace Sys2Proof.Machine

/-! ## The fetch -/

/-- A state of an open chain has no row (log entry 6). -/
@[simp] theorem decodeStream_branch (ch : OpenChain) (k : BranchState) (c : Byte) :
    decodeStream (.branch ch k) c = none := rfl

/-- In a state of an open chain an iteration is the chain's rule. -/
theorem iterate_branch {s : State} {ch : OpenChain} {k : BranchState} (hq : s.state = .branch ch k) :
    iterate s = iterateBranch ch k (s.inByte s.rp) s := by
  rw [iterate, hq]
  rfl

/-! ## The step of the host -/

/-- With no command offered the instance is inert (`60_exceptions.md` R389). -/
theorem step_host_empty {s : State} (hs : s.source = .host) (hp : s.port = []) : step s = .next s := by
  simp [step, hs, hp]

/-- The host's next command leaves the port and runs. -/
theorem step_host_command {s : State} {p : List Byte} {ps : List (List Byte)} {i : Instr} {tail : List Byte}
    (hs : s.source = .host) (hp : s.port = p :: ps) (hd : decode .cmd p = .ok (i, tail)) :
    step s = exec i { s with port := ps } := by
  simp [step, hs, hp, hd]

/-! ## The step within a `LEX.PARSE` -/

/-- With every byte consumed a pass of the loop is `Exhausted` (`40_lexer_core.md` R134, R135). -/
theorem step_stream_exhausted {s : State} (hs : s.source = .stream) (hrp : s.rp = s.inlen) :
    step s = .next s.exhausted := by
  simp [step, hs, hrp]

/-- With a byte to consume and a row for it at the position (`state`, `rp`), a step is the row (`10_state.md` R26). -/
theorem step_stream_row {s : State} {i : Instr} (hs : s.source = .stream) (hrp : s.rp ≠ s.inlen)
    (hd : decodeStream s.state (s.inByte s.rp) = some i) : step s = exec i s := by
  simp [step, hs, hrp, State.fetchStream, hd]

/-- With a byte to consume and no row for it, a step is the iteration of the state. -/
theorem step_stream_noRow {s : State} (hs : s.source = .stream) (hrp : s.rp ≠ s.inlen)
    (hd : decodeStream s.state (s.inByte s.rp) = none) : step s = iterate s := by
  simp [step, hs, hrp, State.fetchStream, hd]

/-- With a byte to consume in a state of an open chain, a step is the chain's rule. -/
theorem step_stream_branch {s : State} {ch : OpenChain} {k : BranchState} (hs : s.source = .stream)
    (hrp : s.rp ≠ s.inlen) (hq : s.state = .branch ch k) : step s = iterateBranch ch k (s.inByte s.rp) s := by
  have hd : decodeStream s.state (s.inByte s.rp) = none := by rw [hq, decodeStream_branch]
  rw [step_stream_noRow hs hrp hd, iterate_branch hq]

/-- Settles O59: each clause is the equation of `step` for one case of the fetch. -/
theorem stepRunsDecodedInstruction : Obligations.StepRunsDecodedInstruction := by
  intro s
  exact ⟨fun _ _ _ _ => step_host_command, fun _ => step_stream_row, fun _ _ => step_stream_branch,
    step_stream_exhausted, step_host_empty⟩

end Sys2Proof.Machine
end

section
/-! PROOFS. The dispatch, said once: the transition rule of each state, what a row of the stream and what a command runs,
what the decoder gives the host, and the induction over the loop of `LEX.PARSE`. -/

namespace Sys2Proof.Machine

/-! ## The rows of the stream -/

/-- The transition rule of a state on a byte (`40_lexer_core.md` R150); `iterateIn_eq` ties it to the machine. -/
def LexState.rule (q : LexState) (c : Byte) : State → Trans :=
  match q with
  | .groundState => nextGroundState c
  | .commentBody => nextCommentBody c
  | .commentRecognized => nextCommentRecognized c
  | .nmeaDollar => nextNmeaDollar c
  | .nmeaLeadG => nextNmeaLeadG c
  | .nmeaLeadA => nextNmeaLeadA c
  | .nmeaLeadB => nextNmeaLeadB c
  | .nmeaLeadH => nextNmeaLeadH c
  | .nmeaLeadI => nextNmeaLeadI c
  | .nmeaLeadQ => nextNmeaLeadQ c
  | .nmeaLeadS => nextNmeaLeadS c
  | .nmeaLeadT => nextNmeaLeadT c
  | .nmeaLeadW => nextNmeaLeadW c
  | .nmeaLeadY => nextNmeaLeadY c
  | .nmeaVendorLead => nextNmeaVendorLead c
  | .nmeaPashrA => nextNmeaPashrA c
  | .nmeaPashrS => nextNmeaPashrS c
  | .nmeaPashrH => nextNmeaPashrH c
  | .nmeaBinaryBody => nextNmeaBinaryBody c
  | .nmeaBinaryCr => nextNmeaBinaryCr c
  | .nmeaLeaderEnd => nextNmeaLeaderEnd c
  | .nmeaCr => nextNmeaCr c
  | .nmeaRecognized => nextNmeaRecognized c
  | .nmeaBang => nextNmeaBang c
  | .aisLead1 => nextAisLead1 c
  | .jsonBody => nextJsonBody c
  | .jsonString => nextJsonString c
  | .jsonEscape => nextJsonEscape c
  | .jsonValue => nextJsonValue c
  | .jsonRecognized => nextJsonRecognized c
  | .ubxLeader1 => nextUbxLeader1 c
  | .ubxLeader2 => nextUbxLeader2 c
  | .ubxClassId => nextUbxClassId c
  | .ubxMessageId => nextUbxMessageId c
  | .ubxLength1 => nextUbxLength1 c
  | .ubxLength2 => nextUbxLength2 c
  | .ubxPayload => nextUbxPayload c
  | .ubxChecksumA => nextUbxChecksumA c
  | .ubxRecognized => nextUbxRecognized c
  | .allyLeader1 => nextAllyLeader1 c
  | .allyLeader2 => nextAllyLeader2 c
  | .allyClassId => nextAllyClassId c
  | .allyMessageId => nextAllyMessageId c
  | .allyLength1 => nextAllyLength1 c
  | .allyLength2 => nextAllyLength2 c
  | .allyPayload => nextAllyPayload c
  | .allyChecksumA => nextAllyChecksumA c
  | .allyRecognized => nextAllyRecognized c
  | .casicLeader1 => nextCasicLeader1 c
  | .casicLeader2 => nextCasicLeader2 c
  | .casicLength1 => nextCasicLength1 c
  | .casicLength2 => nextCasicLength2 c
  | .casicClassId => nextCasicClassId c
  | .casicMessageId => nextCasicMessageId c
  | .casicPayload => nextCasicPayload c
  | .casicChecksum1 => nextCasicChecksum1 c
  | .casicChecksum2 => nextCasicChecksum2 c
  | .casicChecksum3 => nextCasicChecksum3 c
  | .casicRecognized => nextCasicRecognized c
  | .geostarLeader1 => nextGeostarLeader1 c
  | .geostarLeader2 => nextGeostarLeader2 c
  | .geostarLeader3 => nextGeostarLeader3 c
  | .geostarLeader4 => nextGeostarLeader4 c
  | .geostarMessageId1 => nextGeostarMessageId1 c
  | .geostarMessageId2 => nextGeostarMessageId2 c
  | .geostarLength1 => nextGeostarLength1 c
  | .geostarLength2 => nextGeostarLength2 c
  | .geostarPayload => nextGeostarPayload c
  | .geostarChecksum1 => nextGeostarChecksum1 c
  | .geostarChecksum2 => nextGeostarChecksum2 c
  | .geostarChecksum3 => nextGeostarChecksum3 c
  | .geostarRecognized => nextGeostarRecognized c
  | .greisId1 => nextGreisId1 c
  | .greisId2 => nextGreisId2 c
  | .greisLength1 => nextGreisLength1 c
  | .greisLength2 => nextGreisLength2 c
  | .greisLength3 => nextGreisLength3 c
  | .greisPayload => nextGreisPayload c
  | .greisRecognized => nextGreisRecognized c
  | .rtcm3Leader1 => nextRtcm3Leader1 c
  | .rtcm3Length1 => nextRtcm3Length1 c
  | .rtcm3Length2 => nextRtcm3Length2 c
  | .rtcm3Payload => nextRtcm3Payload c
  | .rtcm3Crc1 => nextRtcm3Crc1 c
  | .rtcm3Crc2 => nextRtcm3Crc2 c
  | .rtcm3Recognized => nextRtcm3Recognized c
  | .branch ch k => nextBranch ch k c

/-- The iteration in a state is an iteration of the state's rule. -/
theorem iterateIn_eq (q : LexState) (c : Byte) (s : State) : iterateIn q c s = iteration (q.rule c) s := by
  cases q <;> rfl

/-- An iteration reads its rule only at the state after the byte is consumed. -/
theorem iteration_congr {s : State} {f g : State → Trans} (h : f s.consume = g s.consume) :
    iteration f s = iteration g s := by rw [iteration, iteration, h]

/-- The row of a ground byte (`30_encoding.md` R95) is the iteration of the ground state: the two dispatch maps test the
byte in the same order. -/
theorem exec_decodeGb (c : Byte) (s : State) : exec (decodeGb c) s = iteration (nextGroundState c) s := by
  rw [iteration_congr (g := fun _ => nextGroundState c s.consume) rfl]
  simp only [decodeGb, nextGroundState, apply_ite (exec · s), apply_ite fun tr => iteration (fun _ => tr) s]
  rfl

/-- The row of a talker byte (`30_encoding.md` R96) is the iteration of `NMEA_DOLLAR`. -/
theorem exec_decodeTk (c : Byte) (s : State) : exec (decodeTk c) s = iteration (nextNmeaDollar c) s := by
  rw [iteration_congr (g := fun _ => nextNmeaDollar c s.consume) rfl]
  simp only [decodeTk, nextNmeaDollar, apply_ite (exec · s), apply_ite fun tr => iteration (fun _ => tr) s]
  rfl

/-- The row of a state is an iteration of the state's rule. -/
theorem exec_stateRow {q : LexState} {c : Byte} {i : Instr} (h : stateRow q c = some i) (s : State) :
    exec i s = iteration (q.rule c) s := by
  cases q <;> cases h <;> rfl

/-- The row fetched at the position (`state`, `rp`) (`10_state.md` R26) is an iteration of the state's rule. -/
theorem exec_decodeStream {q : LexState} {c : Byte} {i : Instr} (h : decodeStream q c = some i) (s : State) :
    exec i s = iteration (q.rule c) s := by
  unfold decodeStream at h
  split at h
  · next hq => subst hq; cases h; exact exec_decodeGb c s
  · split at h
    · next hq => subst hq; cases h; exact exec_decodeTk c s
    · exact exec_stateRow h s

/-- Only the states of the open chains have no row. -/
theorem isBranch_of_row {q : LexState} {c : Byte} {i : Instr} (h : stateRow q c = some i ∨ decodeStream q c = some i) :
    q.isBranch = false := by
  cases q with
  | branch ch k => rcases h with h | h <;> cases h
  | _ => rfl

/-- A row of the stream formats is an iteration of some rule. -/
theorem exec_streamFormat {i : Instr} (h : (encode i).1 ≠ .cmd) : ∃ rule, ∀ s, exec i s = iteration rule s := by
  cases i <;> simp [encode] at h
  all_goals exact ⟨_, fun _ => rfl⟩

/-! ## The commands -/

/-- The commands are `LEX.INIT`, `LEX.FEED`, `LEX.PARSE` and those that only return a result (`43_checksum_unit.md` R301,
`44_bit_extractor.md` R334). -/
theorem exec_command {i : Instr} (h : (encode i).1 = .cmd) :
    i = .lexInit ∨ (∃ bs, i = .lexFeed bs) ∨ i = .lexParse ∨ ∀ s, ∃ r, exec i s = .next (s.withResult r) := by
  cases i <;> simp [encode] at h
  case lexInit => exact .inl rfl
  case lexFeed bs => exact .inr (.inl ⟨bs, rfl⟩)
  case lexParse => exact .inr (.inr (.inl rfl))
  all_goals exact .inr (.inr (.inr fun _ => ⟨_, rfl⟩))

/-- A reading gives the host nothing but commands. -/
def GivesCommand (r : Read Instr) : Prop := ∀ i tail, r = .ok (i, tail) → (encode i).1 = .cmd

section
variable {rest : List Byte} {a b : Read Instr} {p : Prop} [Decidable p]

theorem GivesCommand.ok {i : Instr} (h : (encode i).1 = .cmd) : GivesCommand (.ok (i, rest)) := by
  rintro _ _ ⟨⟩
  exact h

theorem GivesCommand.error (e : DecodeError) : GivesCommand (.error e) := nofun

theorem GivesCommand.ite (ha : GivesCommand a) (hb : GivesCommand b) : GivesCommand (if p then a else b) := by
  split <;> assumption

theorem GivesCommand.bytesForm {k : List Byte → Instr} (h : ∀ bs, (encode (k bs)).1 = .cmd) :
    GivesCommand (readBytesForm k rest) := by
  unfold readBytesForm
  split
  · exact .ok (h _)
  · exact .error _

theorem GivesCommand.srcForm {k : Src → Instr} (h : ∀ v, (encode (k v)).1 = .cmd) :
    GivesCommand (readSrcForm k rest) := by
  unfold readSrcForm
  split
  · exact .ok (h _)
  · exact .error _

theorem GivesCommand.offForm {k : Src → Nat → Instr} (h : ∀ v off, (encode (k v off)).1 = .cmd) :
    GivesCommand (readOffForm k rest) := by
  unfold readOffForm
  split
  · exact .error _
  · split
    · exact .ok (h _ _)
    · exact .error _

theorem GivesCommand.fieldForm {k : Src → Nat → Nat → Bool → Instr}
    (h : ∀ v start width le, (encode (k v start width le)).1 = .cmd) : GivesCommand (readFieldForm k rest) := by
  unfold readFieldForm
  repeat' split
  exacts [.error _, .error _, .error _, .ok (h _ _ _ _), .error _]

end

/-- The command map (`30_encoding.md` R92), row by row. -/
theorem decodeCmd_givesCommand (op : Byte) (rest : List Byte) : GivesCommand (decodeCmd op rest) := by
  unfold decodeCmd
  exact .ite (.ok rfl) <| .ite (.bytesForm fun _ => rfl) <| .ite (.ok rfl) <|
    .ite (.srcForm fun _ => rfl) <| .ite (.srcForm fun _ => rfl) <| .ite (.srcForm fun _ => rfl) <|
    .ite (.srcForm fun _ => rfl) <| .ite (.srcForm fun _ => rfl) <| .ite (.srcForm fun _ => rfl) <|
    .ite (.fieldForm fun _ _ _ _ => rfl) <| .ite (.fieldForm fun _ _ _ _ => rfl) <|
    .ite (.offForm fun _ _ => rfl) <| .ite (.offForm fun _ _ => rfl) <| .ite (.offForm fun _ _ => rfl) <|
    .ite (.offForm fun _ _ => rfl) <| .ite (.offForm fun _ _ => rfl) <| .ite (.offForm fun _ _ => rfl) <|
    .ite (.offForm fun _ _ => rfl) <| .ite (.offForm fun _ _ => rfl) <| .ite (.offForm fun _ _ => rfl) <|
    .ite (.offForm fun _ _ => rfl) <| .ite (.offForm fun _ _ => rfl) <| .ite (.offForm fun _ _ => rfl) <|
    .ite (.offForm fun _ _ => rfl) <| .ite (.offForm fun _ _ => rfl) <| .ite (.offForm fun _ _ => rfl) <|
    .ite (.offForm fun _ _ => rfl) (.error _)

/-- What the decoder reads for the host is a command (`30_encoding.md` R92). -/
theorem decode_cmd_format {p tail : List Byte} {i : Instr} (h : decode .cmd p = .ok (i, tail)) :
    (encode i).1 = .cmd := by
  cases p with
  | nil => cases h
  | cons op rest => exact decodeCmd_givesCommand op rest i tail h

/-! ## The loop of `LEX.PARSE` -/

/-- What every iteration and the final `Exhausted` of a `LEX.PARSE` keep, the whole command keeps (`40_lexer_core.md`
R134): the loop goes on only from states within the stream. -/
theorem parseLoop_induct {P : State → Prop}
    (iter : ∀ u v, P u → u.source = .stream → u.rp ≠ u.inlen → iterate u = .next v → P v)
    (exh : ∀ u, P u → u.source = .stream → u.rp = u.inlen → P u.exhausted) {bound : Nat} {s t : State}
    (hs : s.source = .stream) (h : P s) (hr : parseLoop bound s = .next t) : P t := by
  induction bound generalizing s with
  | zero =>
    unfold parseLoop at hr
    split at hr
    · next he => cases hr; exact exh s h hs he
    · cases hr
  | succ k ih =>
    by_cases he : s.rp = s.inlen
    · rw [parseLoop_exhausted _ he] at hr
      cases hr
      exact exh s h hs he
    · cases hi : iterate s with
      | next u =>
        rw [parseLoop_step k he hi] at hr
        have hu : P u := iter s u h hs he hi
        split at hr
        · cases hr; exact hu
        · next hn =>
          have hu' : u.source = .stream := by cases hq : u.source <;> simp_all
          exact ih hu' hu hr
      | fault f => simp [parseLoop, he, hi] at hr
      | refused r => simp [parseLoop, he, hi] at hr

end Sys2Proof.Machine
end

section
/-! PROOFS. The machine right after reset, and the codes of the states, the packet types, the events and the severities. -/

namespace Sys2Proof.Machine

/-! ## Reset -/

/-- Settles O1: the values are those of the record, and with the stash and RTCM2 absent from the baseline `LEX.INIT` writes
the values that stand there. -/
theorem resetValues : Obligations.ResetValues :=
  ⟨rfl, rfl, rfl, rfl, rfl, rfl, rfl, rfl, rfl, rfl, rfl, rfl, rfl, .none, rfl⟩

/-- After reset the empty output slot is the only byte listed. -/
theorem State.reset_outputOk : State.reset.outputOk := by
  refine ⟨rfl, fun i => ?_, rfl, Nat.zero_le _, Nat.zero_le _, nofun⟩
  rw [State.reset, Memory.byteAt?_cons]
  cases i <;> simp

theorem State.reset_inv : State.reset.Inv where
  cfg := by decide
  pointers := ⟨Nat.le_refl _, Nat.zero_le _⟩
  input := ⟨rfl, fun i => by simp [State.reset]⟩
  output := State.reset_outputOk
  idle := fun _ => ⟨rfl, rfl, rfl⟩
  counts := ⟨Nat.zero_le _, Nat.le_refl _, nofun, nofun⟩
  baseline := rfl

theorem State.reset_frameOk : State.reset.FrameOk where
  leader := nofun
  atLeast := Nat.le_refl _
  exact := fun _ => rfl
  declared := nofun
  trailer := nofun
  words := nofun

/-- Settles O2. -/
theorem resetMeetsInvariants : Obligations.ResetMeetsInvariants := ⟨State.reset_inv, State.reset_frameOk⟩

/-! ## Codes -/

/-- The 86 states of `10_state.md` R35 in their order have the codes 0 to 85. -/
theorem LexState.all_map_code : LexState.all.map LexState.code = (List.range 86).map (BitVec.ofNat 7) := by decide

theorem LexState.code_lt_of_mem_all {q : LexState} (h : q ∈ LexState.all) : q.code < 86 := by
  have hq : q.code ∈ (List.range 86).map (BitVec.ofNat 7) := LexState.all_map_code ▸ List.mem_map_of_mem h
  obtain ⟨i, hi, hc⟩ := List.mem_map.1 hq
  have := List.mem_range.1 hi
  bv_omega

/-- A state outside the open chains is the one found by its code, and the code is below 86. -/
theorem LexState.ofCode?_code {q : LexState} (h : q.isBranch = false) :
    LexState.ofCode? q.code = some q ∧ q.code < 86 := by
  cases q with
  | branch ch k => cases h
  | _ => decide

/-- A state of an open chain has one of the codes the baseline leaves unused (log entry 6). -/
theorem LexState.le_code_branch (ch : OpenChain) (k : BranchState) : 86 ≤ (LexState.branch ch k).code := by
  have := (Config.branchCode ch k).isLt
  rw [LexState.code]
  bv_omega

theorem LexState.ofCode?_eq_none {n : BitVec 7} (h : 86 ≤ n) : LexState.ofCode? n = none := by
  refine List.find?_eq_none.2 fun q hq he => ?_
  have hc : q.code = n := by simpa using he
  have := LexState.code_lt_of_mem_all hq
  bv_omega

theorem LexState.exists_code {n : BitVec 7} (h : n < 86) : ∃ q : LexState, q.isBranch = false ∧ q.code = n := by
  have hn : n ∈ LexState.all.map LexState.code := by
    rw [LexState.all_map_code]
    exact List.mem_map.2 ⟨n.toNat, List.mem_range.2 h, by simp⟩
  obtain ⟨q, hq, rfl⟩ := List.mem_map.1 hn
  exact ⟨q, (by decide : ∀ q ∈ LexState.all, q.isBranch = false) q hq, rfl⟩

theorem PacketType.code_lt (ty : PacketType) : ty.code < 25 := by cases ty <;> decide

/-- Settles O58: the listed codes are compared by evaluation, the open chains' codes by their definition. -/
theorem stateCodes : Obligations.StateCodes :=
  ⟨LexState.all_map_code, fun _ => LexState.ofCode?_code, LexState.le_code_branch, fun _ => LexState.ofCode?_eq_none,
    fun _ => LexState.exists_code, by decide, by decide, PacketType.code_lt, rfl, rfl, rfl, rfl⟩

end Sys2Proof.Machine
end

section
/-! PROOFS. Who writes the output slot and the registers no iteration has a rule for. -/

namespace Sys2Proof.Machine

/-! ## What a recognition delivers -/

theorem OpenChain.packetType_mem_types (ch : OpenChain) (j : Nat) : ch.packetType j ∈ ch.types := by
  unfold OpenChain.packetType
  split <;> simp [OpenChain.types]

/-- The chain of a validation pass fixes the types of the packets it accepts (`40_lexer_core.md` R142). -/
theorem validate_accept_type {cfg : Config} {r : Recog} {cand : List Byte} {ty : PacketType} {n : Nat}
    (h : validate cfg r cand = .accept ty n) : ty ∈ r.types := by
  cases r with
  | branch ch k =>
    simp only [validate, validateBranch] at h
    split at h <;> cases h
    exact ch.packetType_mem_types _
  | _ =>
    simp only [validate, validateComment, validateNmea, validateJson, validateUbx, validateAllystar, validateCasic,
      validateGeostar, validateGreis, validateRtcm3] at h
    repeat' split at h
    all_goals cases h
    all_goals simp [Recog.types]

/-- The end of a validation pass: an accept within the capacities, or one of the two events (`40_lexer_core.md` R142 to
R145). -/
theorem State.conclude_cases (s : State) (v : Verdict) :
    (∃ ty n, v = .accept ty n ∧ n ≤ s.cfg.maxPacketLength ∧ n ≤ s.cfg.outCap - 1 ∧
      s.conclude v = s.acceptPacket ty n) ∨ ∃ e, s.conclude v = s.raise e := by
  cases v with
  | bad => exact .inr ⟨.badCheck, rfl⟩
  | accept ty n =>
    by_cases hc : s.cfg.maxPacketLength < n ∨ s.cfg.outCap - 1 < n
    · exact .inr ⟨.oversize, if_pos hc⟩
    · exact .inl ⟨ty, n, rfl, by omega, by omega, if_neg hc⟩

/-- A recognition: a packet of the chain within the capacities, or an event. -/
theorem State.recognise_cases (s : State) (r : Recog) :
    (∃ ty n, ty ∈ r.types ∧ n ≤ s.cfg.maxPacketLength ∧ n ≤ s.cfg.outCap - 1 ∧
      s.recognise r = (s.goto r.state).acceptPacket ty n) ∨
      ∃ e, s.recognise r = (s.goto r.state).raise e := by
  rcases (s.goto r.state).conclude_cases (validate s.cfg r (s.goto r.state).candidate) with ⟨ty, n, hv, hm, ho, h⟩ | h
  · exact .inl ⟨ty, n, validate_accept_type hv, hm, ho, h⟩
  · exact .inr h

/-- A pushback (`40_lexer_core.md` R138, R139) gives the byte back and goes to the state; in the ground state it is the
event `E_FRAMING` when a candidate is abandoned, and sets the idle values when none is. -/
theorem State.pushback_cases (s : State) (q : LexState) :
    (q ≠ .groundState ∧ s.pushback q = s.rewind.goto q) ∨
      (q = .groundState ∧ 0 < s.rp - 1 ∧ s.pushback q = (s.rewind.goto q).raise .framing) ∨
      (q = .groundState ∧ s.rp - 1 = 0 ∧ s.pushback q = (s.rewind.goto q).setIdle) := by
  unfold State.pushback
  by_cases hq : q = .groundState
  · simp only [hq, if_true, State.pushToGround, State.goto_rp, State.rewind_rp]
    by_cases hr : 0 < s.rp - 1
    · exact .inr (.inl ⟨trivial, hr, if_pos hr⟩)
    · exact .inr (.inr ⟨trivial, by omega, if_neg hr⟩)
  · exact .inl ⟨hq, if_neg hq⟩

/-! ## The frame of an iteration -/

/-- `t` has the hardwired registers, the port, `chunk_rem` and the stash of `s`. -/
structure State.SameRegisters (s t : State) : Prop where
  cfg : t.cfg = s.cfg
  port : t.port = s.port
  chunkRem : t.chunkRem = s.chunkRem
  stash : t.stash = s.stash ∧ t.stashlen = s.stashlen

/-- `t` has the output slot of `s`. -/
def State.SameSlot (s t : State) : Prop := t.outbuf = s.outbuf ∧ t.outlen = s.outlen ∧ t.type = s.type

theorem State.raise_same (s : State) (e : Event) : s.SameRegisters (s.raise e) ∧ s.SameSlot (s.raise e) := by
  cases e <;> exact ⟨⟨rfl, rfl, rfl, rfl, rfl⟩, rfl, rfl, rfl⟩

theorem State.exhausted_same (s : State) : s.SameRegisters s.exhausted ∧ s.SameSlot s.exhausted := by
  rcases s.exhausted_cases with ⟨-, h⟩ | ⟨-, h⟩ <;> rw [h]
  · exact s.raise_same .full
  · exact ⟨⟨rfl, rfl, rfl, rfl, rfl⟩, rfl, rfl, rfl⟩

theorem State.pushback_same (s : State) (q : LexState) : s.SameRegisters (s.pushback q) ∧ s.SameSlot (s.pushback q) := by
  rcases s.pushback_cases q with ⟨-, h⟩ | ⟨-, -, h⟩ | ⟨-, -, h⟩ <;> rw [h] <;>
    exact ⟨⟨rfl, rfl, rfl, rfl, rfl⟩, rfl, rfl, rfl⟩

/-- The performance of an action keeps the registers no iteration has a rule for, and the output slot unless it accepts a
packet, which ends the command in the chain's recognised state (`40_lexer_core.md` R143, `10_state.md` R28). -/
theorem perform_same (s : State) (tr : Trans) :
    s.SameRegisters (perform s tr) ∧ (s.SameSlot (perform s tr) ∨
      ((perform s tr).source = .host ∧
        (perform s tr).result = .parse (perform s tr).type (perform s tr).outlen false ∧
        ∃ r, (perform s tr).type ∈ Recog.types r ∧ (perform s tr).state = r.state)) := by
  rcases perform_cases s tr with ⟨q, -, h⟩ | ⟨q, -, h⟩ | ⟨q, -, h⟩ | ⟨-, h⟩ | ⟨r, -, h⟩ <;> rw [h]
  · exact ⟨⟨rfl, rfl, rfl, rfl, rfl⟩, .inl ⟨rfl, rfl, rfl⟩⟩
  · obtain ⟨⟨hcfg, hport, hchunk, hst⟩, hslot⟩ := (s.loadTrans tr).pushback_same q
    exact ⟨⟨hcfg, hport, hchunk, hst⟩, .inl hslot⟩
  · exact ⟨⟨rfl, rfl, rfl, rfl, rfl⟩, .inl ⟨rfl, rfl, rfl⟩⟩
  · exact ⟨⟨rfl, rfl, rfl, rfl, rfl⟩, .inl ⟨rfl, rfl, rfl⟩⟩
  · rcases (s.loadTrans tr).recognise_cases r with ⟨ty, n, hty, -, -, h'⟩ | ⟨e, h'⟩ <;> rw [h']
    · exact ⟨⟨rfl, rfl, rfl, rfl, rfl⟩, .inr ⟨rfl, rfl, r, hty, rfl⟩⟩
    · obtain ⟨⟨hcfg, hport, hchunk, hst⟩, hslot⟩ := ((s.loadTrans tr).goto r.state).raise_same e
      exact ⟨⟨hcfg, hport, hchunk, hst⟩, .inl hslot⟩

/-- What `LEX.PARSE` and its iterations leave unchanged: the registers no iteration has a rule for, the stash while it is
off, and the output slot unless a packet was accepted, which ended the command. -/
structure State.StreamFrame (s t : State) : Prop where
  cfg : t.cfg = s.cfg
  port : t.port = s.port
  chunkRem : t.chunkRem = s.chunkRem
  stash : s.cfg.stashEn = false → t.stash = s.stash ∧ t.stashlen = s.stashlen
  slot : s.SameSlot t ∨ (t.source = .host ∧ t.result = .parse t.type t.outlen false ∧
    ∃ r, t.type ∈ Recog.types r ∧ (s.cfg.stashEn = false → t.state = r.state))

theorem State.streamFrame_of_same {s t : State} (h : s.SameRegisters t ∧ s.SameSlot t) : s.StreamFrame t where
  cfg := h.1.cfg
  port := h.1.port
  chunkRem := h.1.chunkRem
  stash _ := h.1.stash
  slot := .inl h.2

/-- An iteration after another that did not end the command. -/
theorem State.StreamFrame.trans {s u t : State} (h : s.StreamFrame u) (hu : u.source = .stream) (h' : u.StreamFrame t) :
    s.StreamFrame t where
  cfg := h'.cfg.trans h.cfg
  port := h'.port.trans h.port
  chunkRem := h'.chunkRem.trans h.chunkRem
  stash off := by
    obtain ⟨h1, h2⟩ := h.stash off
    obtain ⟨h3, h4⟩ := h'.stash (h.cfg ▸ off)
    exact ⟨h3.trans h1, h4.trans h2⟩
  slot := by
    rcases h.slot with ⟨h1, h2, h3⟩ | ⟨hsrc, -⟩
    · rcases h'.slot with ⟨h4, h5, h6⟩ | ⟨hsrc, hres, r, hty, hst⟩
      · exact .inl ⟨h4.trans h1, h5.trans h2, h6.trans h3⟩
      · exact .inr ⟨hsrc, hres, r, hty, fun off => hst (h.cfg ▸ off)⟩
    · rw [hu] at hsrc; cases hsrc

theorem iteration_streamFrame {rule : State → Trans} {s t : State} (h : iteration rule s = .next t) :
    s.StreamFrame t := by
  obtain ⟨-, rfl⟩ := iteration_next h
  obtain ⟨⟨hcfg, hport, hchunk, hstash⟩, hslot⟩ := perform_same s.consume (rule s.consume)
  refine ⟨by simp [hcfg], by simp [hport], by simp [hchunk], fun off => by rw [State.applyStash_off off]; exact hstash, ?_⟩
  rcases hslot with ⟨h1, h2, h3⟩ | ⟨hsrc, hres, r, hty, hst⟩
  · exact .inl ⟨by simp [h1], by simp [h2], by simp [h3]⟩
  · exact .inr ⟨by simp [hsrc], by simp [hres], r, by simpa using hty,
      fun off => by rw [State.applyStash_off off]; exact hst⟩

theorem execLexParse_streamFrame {s t : State} (h : execLexParse s = .next t) : s.StreamFrame t := by
  refine parseLoop_induct (P := s.StreamFrame) (fun u v hu hsrc _ hi => ?_) (fun u hu hsrc _ => ?_) rfl ?_ h
  · rw [iterate, iterateIn_eq] at hi
    exact hu.trans hsrc (iteration_streamFrame hi)
  · exact hu.trans hsrc (State.streamFrame_of_same u.exhausted_same)
  · exact State.streamFrame_of_same ⟨⟨rfl, rfl, rfl, rfl, rfl⟩, rfl, rfl, rfl⟩

/-- Every instruction but `LEX.INIT` has the frame of the iterations, and no command but `LEX.PARSE` writes the stash. -/
theorem exec_streamFrame {i : Instr} {s t : State} (hi : i ≠ .lexInit) (h : exec i s = .next t) :
    s.StreamFrame t ∧ ((encode i).1 = .cmd ∧ i ≠ .lexParse → t.stash = s.stash ∧ t.stashlen = s.stashlen) := by
  by_cases hc : (encode i).1 = .cmd
  · rcases exec_command hc with rfl | ⟨bs, rfl⟩ | rfl | hr
    · exact absurd rfl hi
    · cases h
      exact ⟨State.streamFrame_of_same ⟨⟨rfl, rfl, rfl, rfl, rfl⟩, rfl, rfl, rfl⟩, fun _ => ⟨rfl, rfl⟩⟩
    · exact ⟨execLexParse_streamFrame h, fun hn => absurd rfl hn.2⟩
    · obtain ⟨r, hr⟩ := hr s
      cases hr.symm.trans h
      exact ⟨State.streamFrame_of_same ⟨⟨rfl, rfl, rfl, rfl, rfl⟩, rfl, rfl, rfl⟩, fun _ => ⟨rfl, rfl⟩⟩
  · obtain ⟨rule, hrule⟩ := exec_streamFormat hc
    exact ⟨iteration_streamFrame (hrule s ▸ h), fun hn => absurd hn.1 hc⟩

/-- Settles O18: `LEX.INIT` writes neither `CFG` nor the port, and every other instruction has the frame of the
iterations. -/
theorem writersOfTheSlotAndRegisters : Obligations.WritersOfTheSlotAndRegisters := by
  intro i s t h
  by_cases hi : i = .lexInit
  · subst hi
    cases h
    exact ⟨rfl, rfl, fun hn => absurd rfl hn⟩
  · obtain ⟨f, hstash⟩ := exec_streamFrame hi h
    exact ⟨f.cfg, f.port, fun _ => ⟨f.chunkRem, fun hs => hs.elim f.stash hstash, f.slot.imp_right And.right⟩⟩

end Sys2Proof.Machine
end

section
/-! PROOFS. The layer below the invariants: what every operation on the buffers keeps, and that a machine with sound
buffers and no candidate is canonical. -/

namespace Sys2Proof.Machine

/-! ## The buffers -/

/-- The part of the invariant that speaks of the configuration and the buffers, whatever the automaton's state and
counts. -/
structure State.BuffersOk (s : State) : Prop where
  cfg : s.cfg.wf
  pointers : s.pointersOk
  input : s.inputOk
  output : s.outputOk

section
variable {s : State}

/-! ### The parts of the invariant -/

theorem State.Inv.buffers (h : s.Inv) : s.BuffersOk := ⟨h.cfg, h.pointers, h.input, h.output⟩

theorem State.Inv.stash_off (h : s.Inv) : s.cfg.stashEn = false := by
  obtain ⟨-, -, -, -, -, hoff⟩ := h.cfg
  exact hoff

/-- What `pending` can hold in a state. -/
theorem State.Inv.pending_le (h : s.Inv) {q : LexState} (hq : s.state = q) {m : Nat} (hm : q.pendingMax = m) :
    s.pending ≤ m := by
  obtain ⟨hp, -⟩ := h.counts
  exact hm ▸ hq ▸ hp

theorem State.Inv.jsonDepth_le (h : s.Inv) : s.jsonDepth ≤ s.rp := by
  obtain ⟨-, hd, -⟩ := h.counts
  exact hd

theorem State.Inv.one_le_jsonDepth (h : s.Inv) (hj : s.state.isJson = true) : 1 ≤ s.jsonDepth := by
  obtain ⟨-, -, hpos, -⟩ := h.counts
  exact hpos hj

/-! ### What each operation keeps -/

theorem State.BuffersOk.consume (h : s.BuffersOk) (hlt : s.rp < s.inlen) : s.consume.BuffersOk :=
  ⟨h.cfg, ⟨hlt, h.pointers.2⟩, h.input, h.output⟩

theorem State.BuffersOk.rewind (h : s.BuffersOk) : s.rewind.BuffersOk :=
  ⟨h.cfg, ⟨(Nat.sub_le _ _).trans h.pointers.1, h.pointers.2⟩, h.input, h.output⟩

theorem State.BuffersOk.loadTrans (h : s.BuffersOk) (tr : Trans) : (s.loadTrans tr).BuffersOk :=
  ⟨h.cfg, h.pointers, h.input, h.output⟩

theorem State.BuffersOk.goto (h : s.BuffersOk) (q : LexState) : (s.goto q).BuffersOk :=
  ⟨h.cfg, h.pointers, h.input, h.output⟩

theorem State.BuffersOk.setIdle (h : s.BuffersOk) : s.setIdle.BuffersOk :=
  ⟨h.cfg, h.pointers, h.input, h.output⟩

theorem State.BuffersOk.logEvent (h : s.BuffersOk) (e : Event) : (s.logEvent e).BuffersOk :=
  ⟨h.cfg, h.pointers, h.input, h.output⟩

theorem State.BuffersOk.finish (h : s.BuffersOk) (ty : PacketType) (n : Nat) (cap : Bool) :
    (s.finish ty n cap).BuffersOk :=
  ⟨h.cfg, h.pointers, h.input, h.output⟩

/-- `Shift` within the valid content keeps the buffers (`20_memory.md` R72). -/
theorem State.BuffersOk.shift (h : s.BuffersOk) {n : Nat} (hn : n ≤ s.inlen) : (s.shift n).BuffersOk where
  cfg := h.cfg
  pointers := ⟨Nat.zero_le _, (Nat.sub_le _ _).trans h.pointers.2⟩
  input := by
    refine ⟨s.shift_wf n h.input.1, fun i => ?_⟩
    simp only [State.shift, Memory.byteAt?_window]
    split
    · rw [h.input.2]
      exact decide_eq_decide.2 (by omega)
    · exact (decide_eq_false (by omega)).symm
  output := h.output

theorem State.BuffersOk.clearInput (h : s.BuffersOk) : s.clearInput.BuffersOk :=
  ⟨h.cfg, ⟨Nat.zero_le _, Nat.zero_le _⟩, ⟨rfl, fun _ => rfl⟩, h.output⟩

theorem State.BuffersOk.discard (h : s.BuffersOk) (d : Discard) : (s.discard d).BuffersOk := by
  cases d with
  | candidate => exact h.shift h.pointers.1
  | wholeBuffer => exact h.clearInput

/-- Every event keeps the buffers (`60_exceptions.md` R378). -/
theorem State.BuffersOk.raise (h : s.BuffersOk) (e : Event) : (s.raise e).BuffersOk := by
  have ht := (((h.logEvent e).discard e.discards).setIdle).goto .groundState
  unfold State.raise
  split
  · exact ht
  · exact ht.finish _ _ _

/-- Appending bytes that fit keeps the buffers (`40_lexer_core.md` R133). -/
theorem State.BuffersOk.append (h : s.BuffersOk) {bs : List Byte} (hb : s.inlen + bs.length ≤ s.cfg.inCap) :
    (s.append bs).BuffersOk where
  cfg := h.cfg
  pointers := ⟨h.pointers.1.trans (Nat.le_add_right _ _), hb⟩
  input := by
    refine ⟨s.append_wf bs h.input.1, fun i => ?_⟩
    simp only [State.append, Memory.byteAt?_writeBytes]
    split
    · rw [List.getElem?_eq_getElem (by omega)]
      exact (decide_eq_true (by omega)).symm
    · rw [h.input.2]
      exact decide_eq_decide.2 (by omega)
  output := h.output

/-- The output slot an accept writes (`40_lexer_core.md` R143): the packet and its NUL and nothing else. -/
theorem State.acceptPacket_outputOk (h : s.BuffersOk) {ty : PacketType} {n : Nat} (hm : n ≤ s.cfg.maxPacketLength)
    (ho : n ≤ s.cfg.outCap - 1) (hty : ty ≠ .bad) : (s.acceptPacket ty n).outputOk := by
  have hread (i : Nat) : (s.acceptPacket ty n).outbuf.byteAt? i =
      if i ≤ n then (s.inRange 0 n ++ [0x00])[i]? else none := by
    change ((s.outbuf.writeBytes 0 (s.inRange 0 n ++ [0x00])).window 0 (n + 1)).byteAt? i = _
    simp only [Memory.byteAt?_window, Memory.byteAt?_writeBytes, List.length_append, State.inRange_length,
      List.length_singleton, Nat.zero_add, Nat.zero_le, true_and, Nat.sub_zero, Nat.lt_succ_iff]
    split <;> rfl
  refine ⟨(s.acceptPacket_wf ty n h.input.1 h.output.1).2, fun i => ?_, ?_, hm, ho, hty⟩
  · rw [hread]
    change _ = decide (i ≤ n)
    split
    · rw [List.getElem?_eq_getElem (by simp; omega)]
      exact (decide_eq_true ‹_›).symm
    · exact (decide_eq_false ‹_›).symm
  · change (s.acceptPacket ty n).outbuf.byteAt? n = some 0x00
    rw [hread, if_pos (Nat.le_refl n), List.getElem?_append_right (by simp)]
    simp

theorem State.BuffersOk.acceptPacket (h : s.BuffersOk) {ty : PacketType} {n : Nat} (hm : n ≤ s.cfg.maxPacketLength)
    (ho : n ≤ s.cfg.outCap - 1) (hty : ty ≠ .bad) : (s.acceptPacket ty n).BuffersOk where
  cfg := h.cfg
  pointers := (h.shift h.pointers.1).pointers
  input := (h.shift h.pointers.1).input
  output := State.acceptPacket_outputOk h hm ho hty

/-! ## No candidate under way -/

/-- What the idle states have in common: no leader, no offset, no declared length (`10_state.md` R44). -/
theorem LexState.idle_facts {q : LexState} (h : q.isIdle = true) :
    q.isBranch = false ∧ q.isJson = false ∧ q ≠ .greisLength3 ∧ q ≠ .greisPayload ∧ q.leaders = none ∧
      q.offset = (0, true) ∧ q.remaining = none ∧ q.isTrailer = false := by
  cases q with
  | branch ch k => cases h
  | _ => revert h; decide

/-- Sound buffers and canonical idle (`10_state.md` R44) are the whole invariant. -/
theorem State.BuffersOk.inv_of_idle (h : s.BuffersOk) (hq : s.state.isIdle = true)
    (h0 : s.pending = 0 ∧ s.jsonDepth = 0 ∧ s.rp = 0) : s.Inv := by
  obtain ⟨hbr, hjs, hg3, hgp, -⟩ := LexState.idle_facts hq
  obtain ⟨hp, hd, hr⟩ := h0
  refine ⟨h.cfg, h.pointers, h.input, h.output, fun _ => ⟨hp, hd, hr⟩, ⟨?_, ?_, ?_, ?_⟩, hbr⟩
  · rw [hp]; exact Nat.zero_le _
  · rw [hd]; exact Nat.zero_le _
  · rw [hjs]; nofun
  · rintro (he | he)
    · exact absurd he hg3
    · exact absurd he hgp

/-- In an idle state the candidate's place is that it is empty. -/
theorem State.frameOk_of_idle (hq : s.state.isIdle = true) (hr : s.rp = 0) : s.FrameOk := by
  obtain ⟨-, -, -, -, hl, ho, hm, ht⟩ := LexState.idle_facts hq
  refine ⟨?_, ?_, ?_, ?_, ?_, ?_⟩
  · rw [hl]; nofun
  · rw [ho]; exact Nat.zero_le _
  · rw [ho]; exact fun _ => hr
  · rw [hm]; nofun
  · rw [ht]; nofun
  · rw [hm]; nofun

/-- The state `t` after something done to `s`: it meets the invariant, and the candidate stands in its frame if it did. -/
def State.Kept (s t : State) : Prop := t.Inv ∧ (s.FrameOk → t.FrameOk)

theorem State.BuffersOk.kept_of_idle {t : State} (h : t.BuffersOk) (hq : t.state.isIdle = true)
    (h0 : t.pending = 0 ∧ t.jsonDepth = 0 ∧ t.rp = 0) : s.Kept t :=
  ⟨h.inv_of_idle hq h0, fun _ => State.frameOk_of_idle hq h0.2.2⟩

/-- Every event forces the ground state and canonical idle (`60_exceptions.md` R380). -/
theorem State.raise_idle (s : State) (e : Event) :
    (s.raise e).state = .groundState ∧ (s.raise e).pending = 0 ∧ (s.raise e).jsonDepth = 0 ∧ (s.raise e).rp = 0 := by
  cases e <;> exact ⟨rfl, rfl, rfl, rfl⟩

theorem State.BuffersOk.kept_raise {t : State} (h : t.BuffersOk) (e : Event) : s.Kept (t.raise e) := by
  obtain ⟨hq, h0⟩ := t.raise_idle e
  exact (h.raise e).kept_of_idle (by rw [hq]; rfl) h0

end

end Sys2Proof.Machine
end

section
/-! PROOFS. Every step keeps the invariant and the place of the candidate in its frame. Each shape of
transition is treated once, for both; what it asks of the states it goes between is a table property of theirs, decided
for each row; the rows are then put together in `rule_keeps`. -/

namespace Sys2Proof.Machine

/-! ## The frame of a candidate, without the bytes -/

/-- With `n` bytes consumed and `p` pending, the declared length of the frame fits (the parts `declared`, `trailer` and
`words` of `State.FrameOk`). -/
structure LexState.Fits (q : LexState) (max n p : Nat) : Prop where
  declared : ∀ k, q.remaining = some k → n + p + k ≤ max
  trailer : q.isTrailer = true → p = 0
  words : ∀ k r, q.remaining = some k → q.wordPhase = some r → (n + p + k) % 4 = r

theorem State.FrameOk.fits {s : State} (h : s.FrameOk) : s.state.Fits s.cfg.maxPacketLength s.rp s.pending :=
  ⟨h.declared, h.trailer, h.words⟩

/-- A trailer state is within a declared frame, before its end. -/
theorem LexState.remaining_of_isTrailer {q : LexState} (h : q.isTrailer = true) : q.remaining ≠ none := by
  cases q with
  | branch ch k => cases h
  | _ => revert h; decide

section
variable {q q' : LexState} {max n p : Nat}

theorem LexState.fits_of_remaining_none (h : q.remaining = none) : q.Fits max n p where
  declared k hk := by rw [h] at hk; cases hk
  trailer ht := absurd h (LexState.remaining_of_isTrailer ht)
  words k r hk := by rw [h] at hk; cases hk

/-- A byte of the frame outside the payload: one byte less to come. -/
theorem LexState.Fits.advance (h : q.Fits max n p)
    (hr : ∀ k ∈ q'.remaining, q.remaining = some (k + 1) ∧ q.wordPhase = q'.wordPhase)
    (ht : q'.isTrailer = true → p = 0) : q'.Fits max (n + 1) p where
  declared k hk := by
    have := h.declared _ (hr k hk).1
    omega
  trailer := ht
  words k r hk hw := by
    have := h.words _ r (hr k hk).1 ((hr k hk).2.trans hw)
    omega

/-- A payload byte (`40_lexer_core.md` R149): one byte more consumed and one less pending. -/
theorem LexState.Fits.payload (h : q.Fits max n p) (hp : 1 ≤ p)
    (hr : ∀ k ∈ q'.remaining, q.remaining = some k ∧ q.wordPhase = q'.wordPhase) (ht : q'.isTrailer = false) :
    q'.Fits max (n + 1) (p - 1) where
  declared k hk := by
    have := h.declared _ (hr k hk).1
    omega
  trailer h' := by rw [ht] at h'; cases h'
  words k r hk hw := by
    have := h.words _ r (hr k hk).1 ((hr k hk).2.trans hw)
    omega

end

/-! ## The table properties of a transition -/

/-- In `q'` stands a candidate of `q` with one byte more: the leader stays a leader, the offset advances by one, and a
JSON candidate goes on being one. -/
abbrev LexState.Extends (q q' : LexState) : Prop :=
  (q'.isIdle = false ∧ q'.isBranch = false) ∧ (q'.isJson = true → q.isJson = true) ∧
    (∀ ls' ∈ q'.leaders, ∃ ls, q.leaders = some ls ∧ ∀ b ∈ ls, b ∈ ls') ∧ q'.offset.1 ≤ q.offset.1 + 1 ∧
    (q'.offset.2 = true → q.offset.2 = true ∧ q'.offset.1 = q.offset.1 + 1)

/-- Between `q` and `q'` the counts may stand as they are: the bound on `pending` grows, and where `q'` has a declared
length, `q` has it with one byte more to come. -/
abbrev LexState.Carries (q q' : LexState) : Prop :=
  q.pendingMax ≤ q'.pendingMax ∧ ¬(q' = .greisLength3 ∨ q' = .greisPayload) ∧
    (∀ k ∈ q'.remaining, q.remaining = some (k + 1) ∧ q.wordPhase = q'.wordPhase) ∧
    (q'.isTrailer = true → q.isTrailer = true)

/-- The first state of a chain's candidate: one byte consumed, no length declared. -/
abbrev LexState.Opens (q' : LexState) : Prop :=
  (q'.isIdle = false ∧ q'.isBranch = false) ∧ q'.offset.1 = 1 ∧ q'.remaining = none

/-- `pay` and `trailer` are the payload state and the first trailer state of a countdown from `q`
(`40_lexer_core.md` R149). -/
abbrev LexState.CountsDown (q pay trailer : LexState) : Prop :=
  (q.Extends pay ∧ q.Extends trailer) ∧ q.pendingMax ≤ pay.pendingMax ∧
    ¬(pay = .greisLength3 ∨ pay = .greisPayload) ∧ ¬(trailer = .greisLength3 ∨ trailer = .greisPayload) ∧
    pay.isTrailer = false ∧
    (∀ k ∈ pay.remaining, q.remaining = some k ∧ q.wordPhase = pay.wordPhase) ∧
    (∀ k ∈ trailer.remaining, q.remaining = some (k + 1) ∧ q.wordPhase = trailer.wordPhase)

/-- In `q'` the frame's length is complete: it consists of the bytes consumed so far (exactly `n - 1` in `q`, before the
last length byte), the payload and `k` more. -/
abbrev LexState.Declares (q q' : LexState) (n k : Nat) : Prop :=
  q.Extends q' ∧ q.offset = (n - 1, true) ∧ 1 ≤ n ∧ q'.remaining = some k ∧ q'.isTrailer = false ∧
    q'.pendingMax = 262140

/-! ## The shapes of a transition -/

/-- Performing a transition on the state after the byte is consumed keeps the invariant and the candidate's place. -/
def State.Keeps (s : State) (tr : Trans) : Prop := s.Kept (perform s.consume tr)

theorem State.Keeps.ite {s : State} {c : Prop} [Decidable c] {a b : Trans} (ha : c → s.Keeps a) (hb : ¬c → s.Keeps b) :
    s.Keeps (if c then a else b) := by
  split
  · exact ha ‹_›
  · exact hb ‹_›

section
variable {s : State} {q q' pay trailer : LexState} {p d n k : Nat}

/-- `Go` (`40_lexer_core.md` R137) within a candidate: the counts must be in the range of the new state, and its declared
length must fit. -/
theorem State.Inv.keeps_go (h : s.Inv) (hlt : s.rp < s.inlen) (hq : s.state = q) (he : q.Extends q')
    (hp : p ≤ q'.pendingMax) (hd : d ≤ s.rp + 1) (hj : q'.isJson = true → 1 ≤ d)
    (hg : q' = .greisLength3 ∨ q' = .greisPayload → 1 ≤ p)
    (hf : s.FrameOk → q'.Fits s.cfg.maxPacketLength (s.rp + 1) p) : s.Keeps ⟨.go q', p, d, s.rtcm2⟩ := by
  obtain ⟨⟨hidle, hbranch⟩, -, hlead, hat, hexact⟩ := he
  subst hq
  refine ⟨⟨h.cfg, ⟨hlt, h.pointers.2⟩, h.input, h.output, fun hi => ?_, ⟨hp, hd, hj, hg⟩, hbranch⟩, fun f => ?_⟩
  · exact absurd (hidle.symm.trans hi) nofun
  · obtain ⟨hdecl, htrail, hwords⟩ := hf f
    refine ⟨fun ls' hls' => ?_, hat.trans (Nat.succ_le_succ f.atLeast), fun hx => ?_, hdecl, htrail, hwords⟩
    · obtain ⟨ls, hls, hsub⟩ := hlead ls' hls'
      exact hsub _ (f.leader ls hls)
    · obtain ⟨hx', ho⟩ := hexact hx
      exact (congrArg (· + 1) (f.exact hx')).trans ho.symm

/-- The counts of a state within a JSON candidate or outside it. -/
theorem State.Inv.jsonDepth_of_extends (h : s.Inv) (hq : s.state = q) (he : q.Extends q') :
    s.jsonDepth ≤ s.rp + 1 ∧ (q'.isJson = true → 1 ≤ s.jsonDepth) :=
  ⟨h.jsonDepth_le.trans (Nat.le_succ _), fun hj => by
    obtain ⟨-, hjson, -⟩ := he
    exact h.one_le_jsonDepth (hq ▸ hjson hj)⟩

/-- `Go` with `json_depth` written and `pending` as it stands. -/
theorem State.Inv.keeps_depth (h : s.Inv) (hlt : s.rp < s.inlen) (hq : s.state = q) (hs : q.Extends q' ∧ q.Carries q')
    (hd : d ≤ s.rp + 1) (hj : q'.isJson = true → 1 ≤ d) : s.Keeps (s.consume.depth d (.go q')) := by
  obtain ⟨he, hmax, hg, hrem, htr⟩ := hs
  refine h.keeps_go hlt hq he ((h.pending_le hq rfl).trans hmax) hd hj (fun hg' => absurd hg' hg) fun f => ?_
  exact (hq ▸ f.fits).advance hrem fun ht => f.trailer (hq ▸ htr ht)

/-- `Go` with the counts as they stand. -/
theorem State.Inv.keeps_plain (h : s.Inv) (hlt : s.rp < s.inlen) (hq : s.state = q) (hs : q.Extends q' ∧ q.Carries q') :
    s.Keeps (s.consume.plain (.go q')) := by
  obtain ⟨hd, hj⟩ := h.jsonDepth_of_extends hq hs.1
  exact h.keeps_depth hlt hq hs hd hj

/-- `Go` with a part of the length loaded, while no length is declared. -/
theorem State.Inv.keeps_load (h : s.Inv) (hlt : s.rp < s.inlen) (hq : s.state = q) (he : q.Extends q')
    (hr : q'.remaining = none) (hp : p ≤ q'.pendingMax) : s.Keeps (s.consume.load p (.go q')) := by
  obtain ⟨hd, hj⟩ := h.jsonDepth_of_extends hq he
  refine h.keeps_go hlt hq he hp hd hj (fun hg => ?_) fun _ => LexState.fits_of_remaining_none hr
  rcases hg with rfl | rfl <;> cases hr

/-- `Go` with the whole length loaded, once it has passed the capacity test (`40_lexer_core.md` R152). -/
theorem State.Inv.keeps_declare (h : s.Inv) (hlt : s.rp < s.inlen) (hq : s.state = q) (hdec : q.Declares q' n k)
    (hfit : ¬s.cfg.maxPacketLength < p + (n + k)) (hp : p ≤ 262140)
    (hg : q' = .greisLength3 ∨ q' = .greisPayload → 1 ≤ p) (hw : ∀ r ∈ q'.wordPhase, (n + p + k) % 4 = r) :
    s.Keeps (s.consume.load p (.go q')) := by
  obtain ⟨he, hoff, hn, hrem, htr, hmax⟩ := hdec
  obtain ⟨hd, hj⟩ := h.jsonDepth_of_extends hq he
  refine h.keeps_go hlt hq he (hmax ▸ hp) hd hj hg fun f => ?_
  have hrp : s.rp + 1 = n := by
    have := f.exact (by rw [hq, hoff])
    rw [hq, hoff] at this
    omega
  rw [hrp]
  refine ⟨fun k' hk => ?_, fun ht => absurd (htr.symm.trans ht) nofun, fun k' r hk hr => ?_⟩
  · cases hrem.symm.trans hk
    omega
  · cases hrem.symm.trans hk
    exact hw r hr

/-- `Countdown` (`40_lexer_core.md` R149). -/
theorem State.Inv.keeps_countdown (h : s.Inv) (hlt : s.rp < s.inlen) (hq : s.state = q)
    (hc : q.CountsDown pay trailer) : s.Keeps (s.consume.countdown pay trailer) := by
  obtain ⟨⟨hepay, hetr⟩, hmax, hgpay, hgtr, hnt, hrpay, hrtr⟩ := hc
  refine .ite (fun h0 => ?_) fun h0 => ?_
  · obtain ⟨hd, hj⟩ := h.jsonDepth_of_extends hq hetr
    change s.pending = 0 at h0
    refine h.keeps_go hlt hq hetr (h0.trans_le (Nat.zero_le _)) hd hj (fun hg => absurd hg hgtr) fun f => ?_
    exact (hq ▸ f.fits).advance hrtr fun _ => h0
  · obtain ⟨hd, hj⟩ := h.jsonDepth_of_extends hq hepay
    refine h.keeps_go hlt hq hepay ((Nat.sub_le _ _).trans ((h.pending_le hq rfl).trans hmax)) hd hj (fun hg => absurd hg hgpay) fun f => ?_
    exact (hq ▸ f.fits).payload (Nat.pos_of_ne_zero h0) hrpay hnt

/-- `Push(GROUND_STATE)` (`40_lexer_core.md` R138, R139), whatever the counts. -/
theorem State.Inv.keeps_pushGround (h : s.Inv) (hlt : s.rp < s.inlen) :
    s.Keeps (s.consume.plain (.push .groundState)) := by
  have hb := (((h.buffers.consume hlt).loadTrans (s.consume.plain (.push .groundState))).rewind).goto .groundState
  unfold State.Keeps
  change s.Kept ((s.consume.loadTrans _).pushback .groundState)
  rcases (s.consume.loadTrans (s.consume.plain (.push .groundState))).pushback_cases .groundState with
    ⟨hn, -⟩ | ⟨-, -, he⟩ | ⟨-, hr, he⟩
  · exact absurd rfl hn
  · rw [he]
    exact hb.kept_raise .framing
  · rw [he]
    exact hb.setIdle.kept_of_idle rfl ⟨rfl, rfl, hr⟩

/-- A leader state's test (`42_binary_chains.md` R230(a)). -/
theorem State.Inv.keeps_expect (h : s.Inv) (hlt : s.rp < s.inlen) (hq : s.state = q) {ok : Bool}
    (hs : q.Extends q' ∧ q.Carries q') : s.Keeps (s.consume.expect ok q') :=
  .ite (fun _ => h.keeps_plain hlt hq hs) fun _ => h.keeps_pushGround hlt

/-- `Cap` (`40_lexer_core.md` R141), whatever `pending` was loaded with. -/
theorem State.Inv.keeps_cap (h : s.Inv) (hlt : s.rp < s.inlen) : s.Keeps (s.consume.load p .cap) :=
  ((h.buffers.consume hlt).loadTrans _).kept_raise .length

/-- The packets of a recognition are never of type `BAD`. -/
theorem Recog.bad_not_mem_types (r : Recog) : PacketType.bad ∉ r.types := by
  cases r with
  | branch ch k => cases ch <;> simp [Recog.types, OpenChain.types]
  | _ => simp [Recog.types]

/-- `Rec` (`40_lexer_core.md` R142) in a chain with rules, whatever the counts. -/
theorem State.Inv.keeps_recog (h : s.Inv) (hlt : s.rp < s.inlen) {r : Recog} (hr : r.state.isIdle = true)
    {m : Nat} : s.Keeps ⟨.recog r, p, d, m⟩ := by
  have hb := ((h.buffers.consume hlt).loadTrans ⟨.recog r, p, d, m⟩).goto r.state
  change s.Kept ((s.consume.loadTrans ⟨.recog r, p, d, m⟩).recognise r)
  rcases (s.consume.loadTrans ⟨.recog r, p, d, m⟩).recognise_cases r with ⟨ty, a, hty, hm, ho, he⟩ | ⟨e, he⟩
  · rw [he]
    have hbad : ty ≠ .bad := fun hb => r.bad_not_mem_types (hb ▸ hty)
    exact (hb.acceptPacket hm ho hbad).kept_of_idle hr ⟨rfl, rfl, rfl⟩
  · rw [he]
    exact hb.kept_raise e

/-- `Drop` (`40_lexer_core.md` R140) with no candidate under way. -/
theorem State.Inv.keeps_drop (h : s.Inv) (hlt : s.rp < s.inlen) (hi : s.state.isIdle = true) (hi' : q'.isIdle = true) :
    s.Keeps (s.consume.plain (.drop q')) := by
  obtain ⟨hp, hd, -⟩ := h.idle hi
  have hb := ((h.buffers.consume hlt).loadTrans (s.consume.plain (.drop q'))).goto q'
  exact (hb.shift (Nat.succ_le_of_lt (Nat.zero_lt_of_lt hlt))).kept_of_idle hi' ⟨hp, hd, rfl⟩

/-- The first byte of a candidate (`10_state.md` R26), one the chain's leader allows. -/
theorem State.Inv.keeps_open (h : s.Inv) (hlt : s.rp < s.inlen) (hi : s.state.isIdle = true) (ho : q'.Opens)
    (hl : ∀ ls ∈ q'.leaders, s.inByte s.rp ∈ ls) (hd : d ≤ 1) (hj : q'.isJson = true → d = 1) :
    s.Keeps (s.consume.depth d (.go q')) := by
  obtain ⟨⟨hidle, hbranch⟩, hoff, hrem⟩ := ho
  obtain ⟨hp, -, hrp⟩ := h.idle hi
  obtain ⟨hdecl, htrail, hwords⟩ := LexState.fits_of_remaining_none (max := s.cfg.maxPacketLength) (n := s.rp + 1)
    (p := s.pending) hrem
  refine ⟨⟨h.cfg, ⟨hlt, h.pointers.2⟩, h.input, h.output, fun hi' => ?_, ⟨?_, ?_, fun h' => (hj h').ge, fun hg => ?_⟩,
    hbranch⟩, fun f => ⟨fun ls hls => ?_, ?_, fun _ => ?_, hdecl, htrail, hwords⟩⟩
  · exact absurd (hidle.symm.trans hi') nofun
  · exact hp.trans_le (Nat.zero_le _)
  · exact hd.trans (Nat.le_add_left _ _)
  · rcases hg with rfl | rfl <;> cases hrem
  · exact hrp ▸ hl ls hls
  · exact hoff.trans_le (Nat.le_add_left _ _)
  · exact (congrArg (· + 1) hrp).trans hoff.symm

/-- The first byte of a candidate whose chain does not nest. -/
theorem State.Inv.keeps_lead (h : s.Inv) (hlt : s.rp < s.inlen) (hi : s.state.isIdle = true)
    (ho : q'.Opens ∧ q'.isJson = false) (hl : ∀ ls ∈ q'.leaders, s.inByte s.rp ∈ ls) :
    s.Keeps (s.consume.plain (.go q')) := by
  obtain ⟨hopen, hjson⟩ := ho
  obtain ⟨-, hd, -⟩ := h.idle hi
  exact h.keeps_open hlt hi hopen hl (hd.trans_le (Nat.zero_le _)) fun hj => absurd (hjson.symm.trans hj) nofun

/-- The test for its own leader in a recognised state (`42_binary_chains.md` R239 and its companions). -/
theorem State.Inv.keeps_expectLeader (h : s.Inv) (hlt : s.rp < s.inlen) (hi : s.state.isIdle = true) {l : Byte}
    (ho : q'.Opens ∧ q'.isJson = false) (hl : ∀ ls ∈ q'.leaders, l ∈ ls) :
    s.Keeps (s.consume.expect (s.inByte s.rp == l) q') := by
  refine .ite (fun hc => ?_) fun _ => h.keeps_pushGround hlt
  rw [beq_iff_eq] at hc
  exact h.keeps_lead hlt hi ho (hc ▸ hl)

/-- The capacity test of a length state (`40_lexer_core.md` R152), with the length it loads. -/
theorem State.Inv.keeps_lengthTest (h : s.Inv) (hlt : s.rp < s.inlen) (hq : s.state = q) (hdec : q.Declares q' n k)
    (hp : p ≤ 262140) (hg : ¬(q' = .greisLength3 ∨ q' = .greisPayload)) (hw : ∀ r ∈ q'.wordPhase, (n + p + k) % 4 = r) :
    s.Keeps (s.consume.load p (if s.consume.overLength (n + k) p then .cap else .go q')) := by
  split
  · exact h.keeps_cap hlt
  · next hover =>
    exact h.keeps_declare hlt hq hdec (fun hm => hover (decide_eq_true hm)) hp (fun hg' => absurd hg' hg) hw

end

/-! ## The ground state -/

/-- A legal configuration has the chains no rule describes switched off (`92_eei_decisions.md`, table of parameters). -/
theorem Config.chainEn_off_of_wf {c : Config} (h : c.wf) {bit : Nat} (hb : Config.openChainMask.getLsbD bit = true) :
    c.chainEn.getLsbD bit = false := by
  obtain ⟨-, -, -, -, hmask, -⟩ := h
  have := congrArg (fun v => v.getLsbD bit) hmask
  simpa [hb] using this

section
variable {s : State} {q q' : LexState} {l : Byte} {bit : Nat} {ch : OpenChain}

/-- A ground byte no chain claims (`41_text_chains.md` R172): with RTCM2 off it is dropped. -/
theorem State.Inv.keeps_otherByte (h : s.Inv) (hlt : s.rp < s.inlen) (hi : s.state.isIdle = true) (c : Byte) :
    s.Keeps (nextOtherByte c s.consume) := by
  have hoff : s.consume.cfg.chainEn.getLsbD 17 = false := Config.chainEn_off_of_wf h.cfg (by decide)
  rw [nextOtherByte, hoff]
  exact h.keeps_drop hlt hi rfl

theorem State.Inv.keeps_leader (h : s.Inv) (hlt : s.rp < s.inlen) (hi : s.state.isIdle = true) (hc : s.inByte s.rp = l)
    (ho : q'.Opens ∧ q'.isJson = false) (hl : ∀ ls ∈ q'.leaders, l ∈ ls) : s.Keeps (leader s.consume bit l q') :=
  .ite (fun _ => h.keeps_lead hlt hi ho (hc ▸ hl)) fun _ => h.keeps_otherByte hlt hi l

theorem State.Inv.keeps_openLeader (h : s.Inv) (hlt : s.rp < s.inlen) (hi : s.state.isIdle = true)
    (hb : Config.openChainMask.getLsbD bit = true) : s.Keeps (openLeader s.consume bit l ch) := by
  have hoff : s.consume.cfg.chainEn.getLsbD bit = false := Config.chainEn_off_of_wf h.cfg hb
  rw [openLeader, hoff]
  exact h.keeps_otherByte hlt hi l

/-- The leader brace, in the ground state and in `JSON_RECOGNIZED`: the depth starts at 1 (`41_text_chains.md` R198). -/
theorem State.Inv.keeps_brace (h : s.Inv) (hlt : s.rp < s.inlen) (hi : s.state.isIdle = true)
    (hc : s.inByte s.rp = 0x7B) : s.Keeps (s.consume.depth 1 (.go .jsonBody)) :=
  h.keeps_open hlt hi (by decide) (by rw [hc]; decide) (Nat.le_refl 1) fun _ => rfl

/-- The ground dispatch map (`41_text_chains.md` R171, R172), leader by leader. -/
theorem State.Inv.keeps_groundState (h : s.Inv) (hlt : s.rp < s.inlen) (hi : s.state.isIdle = true) :
    s.Keeps (nextGroundState (s.inByte s.rp) s.consume) := by
  have known {l : Byte} {bit : Nat} {q' : LexState} (ho : q'.Opens ∧ q'.isJson = false)
      (hl : ∀ ls ∈ q'.leaders, l ∈ ls) (hc : s.inByte s.rp = l) : s.Keeps (leader s.consume bit l q') :=
    h.keeps_leader hlt hi hc ho hl
  have closed {l : Byte} {bit : Nat} {ch : OpenChain} (hb : Config.openChainMask.getLsbD bit = true)
      (_ : s.inByte s.rp = l) : s.Keeps (openLeader s.consume bit l ch) := h.keeps_openLeader hlt hi hb
  refine .ite (known (by decide) (by decide)) fun _ => ?_
  refine .ite (known (by decide) (by decide)) fun _ => ?_
  refine .ite (known (by decide) (by decide)) fun _ => ?_
  refine .ite (fun hc => .ite (fun _ => h.keeps_brace hlt hi hc) fun _ => h.keeps_otherByte hlt hi _) fun _ => ?_
  refine .ite (known (by decide) (by decide)) fun _ => ?_
  refine .ite (known (by decide) (by decide)) fun _ => ?_
  refine .ite (known (by decide) (by decide)) fun _ => ?_
  refine .ite (known (by decide) (by decide)) fun _ => ?_
  refine .ite (closed (by decide)) fun _ => .ite (closed (by decide)) fun _ => .ite (closed (by decide)) fun _ => ?_
  refine .ite (closed (by decide)) fun _ => .ite (closed (by decide)) fun _ => ?_
  refine .ite (known (by decide) (by decide)) fun _ => .ite (closed (by decide)) fun _ => ?_
  refine .ite (known (by decide) (by decide)) fun _ => .ite (closed (by decide)) fun _ => ?_
  exact h.keeps_otherByte hlt hi _

end

end Sys2Proof.Machine
end

section
/-! PROOFS. The rows of the automaton keep the invariants, and so does every step. -/

namespace Sys2Proof.Machine

section
variable {s : State} {q : LexState}

/-! ## The rows with a rule of their own shape -/

/-- The twelve talker rows (`41_text_chains.md` R177). -/
theorem State.Inv.keeps_nmeaDollar (h : s.Inv) (hlt : s.rp < s.inlen) (hq : s.state = .nmeaDollar) (c : Byte) :
    s.Keeps (nextNmeaDollar c s.consume) := by
  have go {p : Prop} {q' : LexState} (hs : LexState.nmeaDollar.Extends q' ∧ LexState.nmeaDollar.Carries q') (_ : p) :
      s.Keeps (s.consume.plain (.go q')) := h.keeps_plain hlt hq hs
  refine .ite (go (by decide)) fun _ => .ite (go (by decide)) fun _ => .ite (go (by decide)) fun _ => ?_
  refine .ite (go (by decide)) fun _ => .ite (go (by decide)) fun _ => .ite (go (by decide)) fun _ => ?_
  refine .ite (go (by decide)) fun _ => .ite (go (by decide)) fun _ => .ite (go (by decide)) fun _ => ?_
  refine .ite (go (by decide)) fun _ => .ite (go (by decide)) fun _ => ?_
  exact h.keeps_pushGround hlt

/-- `NmeaBody` (`41_text_chains.md` R184), the rule of four states. -/
theorem State.Inv.keeps_nmeaBody (h : s.Inv) (hlt : s.rp < s.inlen) (hq : s.state = q)
    (hcr : q.Extends .nmeaCr ∧ q.Carries .nmeaCr) (hend : q.Extends .nmeaLeaderEnd ∧ q.Carries .nmeaLeaderEnd)
    (c : Byte) : s.Keeps (nmeaBody c s.consume) :=
  .ite (fun _ => h.keeps_plain hlt hq hcr) fun _ => .ite (fun _ => h.keeps_recog hlt rfl) fun _ =>
    .ite (fun _ => h.keeps_pushGround hlt) fun _ => h.keeps_expect hlt hq hend

/-- `JSON_BODY` (`41_text_chains.md` R194): a bracket moves the depth, which is positive while the candidate goes on. -/
theorem State.Inv.keeps_jsonBody (h : s.Inv) (hlt : s.rp < s.inlen) (hq : s.state = .jsonBody) (c : Byte) :
    s.Keeps (nextJsonBody c s.consume) := by
  have hd := h.jsonDepth_le
  refine .ite (fun _ => ?_) fun _ => .ite (fun _ => ?_) fun _ => .ite (fun _ => ?_) fun _ => .ite (fun _ => ?_) fun _ => ?_
  · exact h.keeps_depth hlt hq (by decide) (Nat.succ_le_succ hd) fun _ => Nat.le_add_left _ _
  · split
    · exact h.keeps_recog hlt rfl
    · next h0 =>
      exact h.keeps_depth hlt hq (by decide) (by simp only [State.consume_jsonDepth]; omega) fun _ => Nat.pos_of_ne_zero h0
  · exact h.keeps_plain hlt hq (by decide)
  · exact h.keeps_plain hlt hq (by decide)
  · exact h.keeps_expect hlt hq (by decide)

/-- The one pushback that is not to the ground state (`41_text_chains.md` R197): nothing but the state changes. -/
theorem State.Inv.keeps_pushBody (h : s.Inv) (hlt : s.rp < s.inlen) (hq : s.state = .jsonValue) :
    s.Keeps (s.consume.plain (.push .jsonBody)) := by
  have hready : s.Ready := ⟨h.stash_off, hlt⟩
  have he : perform s.consume (s.consume.plain (.push .jsonBody)) = s.goto .jsonBody :=
    Host.Outcome.next.inj <| (iteration_ready hready fun u => u.plain (.push .jsonBody)).symm.trans
      (iteration_push nofun hready rfl)
  obtain ⟨hp, hd, hj, -⟩ := h.counts
  rw [State.Keeps, he]
  rw [hq] at hp hj
  refine ⟨⟨h.cfg, h.pointers, h.input, h.output, nofun, ⟨hp, hd, hj, nofun⟩, rfl⟩, fun f => ?_⟩
  obtain ⟨hlead, hat, -, -, -, -⟩ := f
  rw [hq] at hlead hat
  exact ⟨hlead, hat, nofun, nofun, nofun, nofun⟩

/-- `JSON_VALUE` (`41_text_chains.md` R197). -/
theorem State.Inv.keeps_jsonValue (h : s.Inv) (hlt : s.rp < s.inlen) (hq : s.state = .jsonValue) (c : Byte) :
    s.Keeps (nextJsonValue c s.consume) :=
  .ite (fun _ => h.keeps_plain hlt hq (by decide)) fun _ => h.keeps_pushBody hlt hq

/-- A 16-bit length whose low byte stands in `pending` (`30_encoding.md` R107). -/
theorem le16Length_le {low : Nat} (h : low ≤ 255) (c : Byte) : le16Length low c ≤ 65535 := by
  have := c.isLt
  unfold le16Length
  omega

/-- `CASIC_LENGTH_1` (`42_binary_chains.md` R253): the length that goes on is a multiple of 4. -/
theorem State.Inv.keeps_casicLength1 (h : s.Inv) (hlt : s.rp < s.inlen) (hq : s.state = .casicLength1) (c : Byte) :
    s.Keeps (nextCasicLength1 c s.consume) := by
  have hlen := le16Length_le (h.pending_le hq rfl) c
  refine .ite (fun _ => h.keeps_cap hlt) fun hover => .ite (fun _ => h.keeps_pushGround hlt) fun hmul => ?_
  refine h.keeps_declare (n := 4) (k := 6) hlt hq (by decide) (fun hm => hover (decide_eq_true hm))
    (hlen.trans (by decide)) (fun hg => absurd hg (by decide)) fun r hr => ?_
  cases hr
  simp only [State.consume_pending] at hmul ⊢
  omega

/-- The value of an uppercase hex digit (`30_encoding.md` R108). -/
theorem hexVal_le {c : Byte} (h : isHexUpper c = true) : hexVal c ≤ 15 := by
  simp only [isHexUpper, Bool.or_eq_true, Bool.and_eq_true, decide_eq_true_eq, BitVec.le_def] at h
  unfold hexVal
  split <;> bv_omega

/-- `GREIS_ID_2`, the first length digit (`42_binary_chains.md` R278). -/
theorem State.Inv.keeps_greisId2 (h : s.Inv) (hlt : s.rp < s.inlen) (hq : s.state = .greisId2) (c : Byte) :
    s.Keeps (nextGreisId2 c s.consume) := by
  refine .ite (fun hx => ?_) fun _ => h.keeps_pushGround hlt
  exact h.keeps_load hlt hq (by decide) rfl (Nat.mul_le_mul_left 256 (hexVal_le hx))

/-- `GREIS_LENGTH_1`, the second length digit (`42_binary_chains.md` R279). -/
theorem State.Inv.keeps_greisLength1 (h : s.Inv) (hlt : s.rp < s.inlen) (hq : s.state = .greisLength1) (c : Byte) :
    s.Keeps (nextGreisLength1 c s.consume) := by
  refine .ite (fun hx => ?_) fun _ => h.keeps_pushGround hlt
  exact h.keeps_load hlt hq (by decide) rfl
    (Nat.add_le_add (h.pending_le hq rfl) (Nat.mul_le_mul_left 16 (hexVal_le hx)))

/-- `GREIS_LENGTH_2`, the third length digit (`42_binary_chains.md` R280): the countdown starts positive. -/
theorem State.Inv.keeps_greisLength2 (h : s.Inv) (hlt : s.rp < s.inlen) (hq : s.state = .greisLength2) (c : Byte) :
    s.Keeps (nextGreisLength2 c s.consume) := by
  refine .ite (fun hx => ?_) fun _ => h.keeps_pushGround hlt
  have hlen : s.pending + hexVal c ≤ 4080 + 15 := Nat.add_le_add (h.pending_le hq rfl) (hexVal_le hx)
  dsimp only
  split
  · exact h.keeps_cap hlt
  · next hover =>
    split
    · exact h.keeps_recog hlt rfl
    · next h0 =>
      exact h.keeps_declare (n := 5) (k := 0) hlt hq (by decide) (fun hm => hover (decide_eq_true hm))
        (hlen.trans (by decide)) (fun _ => Nat.pos_of_ne_zero h0) nofun

/-- The GREIS countdown (`42_binary_chains.md` R282), of `GREIS_LENGTH_3` and `GREIS_PAYLOAD`. -/
theorem State.Inv.keeps_greisCountdown (h : s.Inv) (hlt : s.rp < s.inlen) (hq : s.state = q)
    (he : q.Extends .greisPayload) (hmax : q.pendingMax = 262140)
    (hr : q.remaining = some 0 ∧ q.wordPhase = LexState.greisPayload.wordPhase) :
    s.Keeps (greisCountdown s.consume) := by
  have hp := h.pending_le hq hmax
  obtain ⟨hd, hj⟩ := h.jsonDepth_of_extends hq he
  refine .ite (fun _ => h.keeps_pushGround hlt) fun h0 => ?_
  split
  · exact h.keeps_recog hlt rfl
  · next h1 =>
    refine h.keeps_go hlt hq he ((Nat.sub_le _ _).trans hp) hd hj (fun _ => Nat.pos_of_ne_zero h1) fun f => ?_
    exact (hq ▸ f.fits).payload (Nat.pos_of_ne_zero h0) (fun k hk => by cases hk; exact hr) rfl

/-- `GREIS_RECOGNIZED` (`42_binary_chains.md` R283). -/
theorem State.Inv.keeps_greisRecognized (h : s.Inv) (hlt : s.rp < s.inlen) (hi : s.state.isIdle = true) (c : Byte) :
    s.Keeps (nextGreisRecognized c s.consume) :=
  .ite (fun _ => h.keeps_drop hlt hi rfl) fun _ => .ite (fun _ => h.keeps_pushGround hlt) fun _ =>
    .ite (fun _ => h.keeps_lead hlt hi (by decide) nofun) fun _ => h.keeps_pushGround hlt

/-- `RTCM3_LEADER_1`, the two high length bits (`42_binary_chains.md` R285). -/
theorem State.Inv.keeps_rtcm3Leader1 (h : s.Inv) (hlt : s.rp < s.inlen) (hq : s.state = .rtcm3Leader1) (c : Byte) :
    s.Keeps (nextRtcm3Leader1 c s.consume) := by
  refine .ite (fun _ => h.keeps_pushGround hlt) fun _ => h.keeps_load hlt hq (by decide) rfl ?_
  have h3 : (c &&& 0x03).toNat ≤ 3 := by
    rw [BitVec.toNat_and]
    exact Nat.and_le_right
  exact Nat.mul_le_mul_left 256 h3

/-- `NMEA_RECOGNIZED` (`41_text_chains.md` R186). -/
theorem State.Inv.keeps_nmeaRecognized (h : s.Inv) (hlt : s.rp < s.inlen) (hi : s.state.isIdle = true) :
    s.Keeps (nextNmeaRecognized (s.inByte s.rp) s.consume) :=
  .ite (fun hc => h.keeps_lead hlt hi (by decide) (by rw [hc.1]; decide)) fun _ =>
    .ite (fun hc => h.keeps_lead hlt hi (by decide) (by rw [hc.1]; decide)) fun _ => h.keeps_pushGround hlt

/-! ## All rows -/

/-- Whatever the state and the byte, the transition of the automaton keeps the invariants. The facts named first are the shapes
that many rows share; which states a row goes between is read off its rule, and their table properties are decided. -/
theorem State.Inv.rule_keeps (h : s.Inv) (hlt : s.rp < s.inlen) :
    s.Keeps (s.state.rule (s.inByte s.rp) s.consume) := by
  have go {q q' : LexState} (hq : s.state = q) (hs : q.Extends q' ∧ q.Carries q') :
      s.Keeps (s.consume.plain (.go q')) := h.keeps_plain hlt hq hs
  have test {q q' : LexState} {ok : Bool} (hq : s.state = q) (hs : q.Extends q' ∧ q.Carries q') :
      s.Keeps (s.consume.expect ok q') := h.keeps_expect hlt hq hs
  have count {q pay tr : LexState} (hq : s.state = q) (hs : q.CountsDown pay tr) :
      s.Keeps (s.consume.countdown pay tr) := h.keeps_countdown hlt hq hs
  have byte {q q' : LexState} {c : Byte} (hq : s.state = q) (he : q.Extends q')
      (hm : q'.remaining = none ∧ 255 ≤ q'.pendingMax) : s.Keeps (s.consume.load c.toNat (.go q')) :=
    h.keeps_load hlt hq he hm.1 ((Nat.le_of_lt_succ c.isLt).trans hm.2)
  have accept {r : Recog} (hr : r.state.isIdle = true) : s.Keeps (s.consume.plain (.recog r)) := h.keeps_recog hlt hr
  have again {l : Byte} {q' : LexState} (hi : s.state.isIdle = true) (ho : q'.Opens ∧ q'.isJson = false)
      (hl : ∀ ls ∈ q'.leaders, l ∈ ls) : s.Keeps (s.consume.expect (s.inByte s.rp == l) q') :=
    h.keeps_expectLeader hlt hi ho hl
  have idle {q : LexState} (hq : s.state = q) (hi : q.isIdle = true) : s.state.isIdle = true := hq ▸ hi
  have push : s.Keeps (s.consume.plain (.push .groundState)) := h.keeps_pushGround hlt
  cases hq : s.state with
  | groundState => exact h.keeps_groundState hlt (idle hq rfl)
  | commentBody => exact .ite (fun _ => accept rfl) fun _ => test hq (by decide)
  | commentRecognized => exact again (idle hq rfl) (by decide) (by decide)
  | nmeaDollar => exact h.keeps_nmeaDollar hlt hq _
  | nmeaLeadG => exact test hq (by decide)
  | nmeaLeadA => exact test hq (by decide)
  | nmeaLeadB => exact test hq (by decide)
  | nmeaLeadH => exact test hq (by decide)
  | nmeaLeadI => exact test hq (by decide)
  | nmeaLeadQ => exact test hq (by decide)
  | nmeaLeadS => exact test hq (by decide)
  | nmeaLeadT => exact test hq (by decide)
  | nmeaLeadW => exact test hq (by decide)
  | nmeaLeadY => exact test hq (by decide)
  | nmeaVendorLead => exact .ite (fun _ => go hq (by decide)) fun _ => test hq (by decide)
  | nmeaPashrA => exact .ite (fun _ => go hq (by decide)) fun _ => h.keeps_nmeaBody hlt hq (by decide) (by decide) _
  | nmeaPashrS => exact .ite (fun _ => go hq (by decide)) fun _ => h.keeps_nmeaBody hlt hq (by decide) (by decide) _
  | nmeaPashrH => exact .ite (fun _ => go hq (by decide)) fun _ => h.keeps_nmeaBody hlt hq (by decide) (by decide) _
  | nmeaBinaryBody => exact .ite (fun _ => go hq (by decide)) fun _ => go hq (by decide)
  | nmeaBinaryCr =>
    exact .ite (fun _ => accept rfl) fun _ => .ite (fun _ => go hq (by decide)) fun _ => go hq (by decide)
  | nmeaLeaderEnd => exact h.keeps_nmeaBody hlt hq (by decide) (by decide) _
  | nmeaCr => exact .ite (fun _ => accept rfl) fun _ => push
  | nmeaRecognized => exact h.keeps_nmeaRecognized hlt (idle hq rfl)
  | nmeaBang => exact test hq (by decide)
  | aisLead1 => exact test hq (by decide)
  | jsonBody => exact h.keeps_jsonBody hlt hq _
  | jsonString =>
    exact .ite (fun _ => go hq (by decide)) fun _ => .ite (fun _ => go hq (by decide)) fun _ => test hq (by decide)
  | jsonEscape => exact go hq (by decide)
  | jsonValue => exact h.keeps_jsonValue hlt hq _
  | jsonRecognized => exact .ite (fun hc => h.keeps_brace hlt (idle hq rfl) hc) fun _ => push
  | ubxLeader1 => exact test hq (by decide)
  | ubxLeader2 => exact go hq (by decide)
  | ubxClassId => exact go hq (by decide)
  | ubxMessageId => exact byte hq (by decide) (by decide)
  | ubxLength1 =>
    exact h.keeps_lengthTest (n := 6) (k := 2) hlt hq (by decide)
      ((le16Length_le (h.pending_le hq rfl) _).trans (by decide)) (by decide) nofun
  | ubxLength2 => exact count hq (by decide)
  | ubxPayload => exact count hq (by decide)
  | ubxChecksumA => exact accept rfl
  | ubxRecognized => exact again (idle hq rfl) (by decide) (by decide)
  | allyLeader1 => exact test hq (by decide)
  | allyLeader2 => exact go hq (by decide)
  | allyClassId => exact go hq (by decide)
  | allyMessageId => exact byte hq (by decide) (by decide)
  | allyLength1 =>
    exact h.keeps_lengthTest (n := 6) (k := 2) hlt hq (by decide)
      ((le16Length_le (h.pending_le hq rfl) _).trans (by decide)) (by decide) nofun
  | allyLength2 => exact count hq (by decide)
  | allyPayload => exact count hq (by decide)
  | allyChecksumA => exact accept rfl
  | allyRecognized => exact again (idle hq rfl) (by decide) (by decide)
  | casicLeader1 => exact test hq (by decide)
  | casicLeader2 => exact byte hq (by decide) (by decide)
  | casicLength1 => exact h.keeps_casicLength1 hlt hq _
  | casicLength2 => exact go hq (by decide)
  | casicClassId => exact go hq (by decide)
  | casicMessageId => exact count hq (by decide)
  | casicPayload => exact count hq (by decide)
  | casicChecksum1 => exact go hq (by decide)
  | casicChecksum2 => exact go hq (by decide)
  | casicChecksum3 => exact accept rfl
  | casicRecognized => exact again (idle hq rfl) (by decide) (by decide)
  | geostarLeader1 => exact test hq (by decide)
  | geostarLeader2 => exact test hq (by decide)
  | geostarLeader3 => exact test hq (by decide)
  | geostarLeader4 => exact go hq (by decide)
  | geostarMessageId1 => exact go hq (by decide)
  | geostarMessageId2 => exact byte hq (by decide) (by decide)
  | geostarLength1 =>
    refine h.keeps_lengthTest (n := 8) (k := 4) hlt hq (by decide)
      (Nat.mul_le_mul_left 4 (le16Length_le (h.pending_le hq rfl) _)) (by decide) fun r hr => ?_
    cases hr
    omega
  | geostarLength2 => exact count hq (by decide)
  | geostarPayload => exact count hq (by decide)
  | geostarChecksum1 => exact go hq (by decide)
  | geostarChecksum2 => exact go hq (by decide)
  | geostarChecksum3 => exact accept rfl
  | geostarRecognized => exact again (idle hq rfl) (by decide) (by decide)
  | greisId1 => exact test hq (by decide)
  | greisId2 => exact h.keeps_greisId2 hlt hq _
  | greisLength1 => exact h.keeps_greisLength1 hlt hq _
  | greisLength2 => exact h.keeps_greisLength2 hlt hq _
  | greisLength3 => exact h.keeps_greisCountdown hlt hq (by decide) rfl ⟨rfl, rfl⟩
  | greisPayload => exact h.keeps_greisCountdown hlt hq (by decide) rfl ⟨rfl, rfl⟩
  | greisRecognized => exact h.keeps_greisRecognized hlt (idle hq rfl) _
  | rtcm3Leader1 => exact h.keeps_rtcm3Leader1 hlt hq _
  | rtcm3Length1 =>
    exact h.keeps_lengthTest (n := 3) (k := 3) hlt hq (by decide)
      ((Nat.add_le_add (h.pending_le hq rfl) (Nat.le_of_lt_succ (BitVec.isLt _))).trans (by decide)) (by decide) nofun
  | rtcm3Length2 => exact count hq (by decide)
  | rtcm3Payload => exact count hq (by decide)
  | rtcm3Crc1 => exact go hq (by decide)
  | rtcm3Crc2 => exact accept rfl
  | rtcm3Recognized => exact again (idle hq rfl) (by decide) (by decide)
  | branch ch k => exact absurd ((congrArg LexState.isBranch hq).symm.trans h.baseline) nofun

end

end Sys2Proof.Machine
end

section
/-! PROOFS. Every step of the machine keeps the invariant and the place of the candidate: the rows by `rule_keeps`, the
commands one by one, `LEX.PARSE` by the induction over its loop. -/

namespace Sys2Proof.Machine

section
variable {s t u : State}

/-! ## The passes of the loop -/

theorem State.Kept.trans (h : s.Kept u) (h' : u.Kept t) : s.Kept t := ⟨h'.1, fun f => h'.2 (h.2 f)⟩

/-- The invariants do not speak of the fields the host reads and writes. -/
theorem State.Inv.kept_host (h : s.Inv) (r : Result) (ps : List (List Byte)) (src : Source) :
    s.Kept { s with result := r, port := ps, source := src } :=
  ⟨⟨h.cfg, h.pointers, h.input, h.output, h.idle, h.counts, h.baseline⟩,
    fun f => ⟨f.leader, f.atLeast, f.exact, f.declared, f.trailer, f.words⟩⟩

/-- An iteration at the position (`state`, `rp`). -/
theorem State.Inv.kept_iteration (h : s.Inv) (ht : iteration (s.state.rule (s.inByte s.rp)) s = .next t) :
    s.Kept t := by
  obtain ⟨hlt, rfl⟩ := iteration_next ht
  rw [State.applyStash_off h.stash_off]
  exact h.rule_keeps hlt

theorem State.Inv.kept_iterate (h : s.Inv) (ht : iterate s = .next t) : s.Kept t := by
  rw [iterate, iterateIn_eq] at ht
  exact h.kept_iteration ht

/-- `Exhausted` (`40_lexer_core.md` R135). -/
theorem State.Inv.kept_exhausted (h : s.Inv) : s.Kept s.exhausted := by
  rcases s.exhausted_cases with ⟨-, he⟩ | ⟨-, he⟩ <;> rw [he]
  · exact h.buffers.kept_raise .full
  · exact h.kept_host _ s.port _

/-- `LEX.PARSE` (`40_lexer_core.md` R134). -/
theorem State.Inv.kept_lexParse (h : s.Inv) (ht : execLexParse s = .next t) : s.Kept t :=
  parseLoop_induct (P := s.Kept) (fun _ _ hu _ _ hi => hu.trans (hu.1.kept_iterate hi))
    (fun _ hu _ _ => hu.trans hu.1.kept_exhausted) rfl (h.kept_host s.result s.port .stream) ht

/-- A step within a `LEX.PARSE`: the final test, the fetched row, or the state's own iteration. -/
theorem State.Inv.kept_step_stream (h : s.Inv) (hs : s.source = .stream) (ht : step s = .next t) : s.Kept t := by
  by_cases hrp : s.rp = s.inlen
  · rw [step_stream_exhausted hs hrp] at ht
    cases ht
    exact h.kept_exhausted
  · cases hd : decodeStream s.state (s.inByte s.rp) with
    | some i =>
      rw [step_stream_row hs hrp hd, exec_decodeStream hd] at ht
      exact h.kept_iteration ht
    | none =>
      rw [step_stream_noRow hs hrp hd] at ht
      exact h.kept_iterate ht

/-! ## The commands -/

/-- `LEX.INIT` (`40_lexer_core.md` R131) leaves what reset leaves: both buffers empty and canonical idle. -/
theorem State.Inv.kept_init (h : s.Inv) : s.Kept s.init := by
  have hout : s.init.outputOk :=
    ⟨State.reset_outputOk.1, State.reset_outputOk.2.1, rfl, Nat.zero_le _, Nat.zero_le _, nofun⟩
  have hb : s.init.BuffersOk := ⟨h.cfg, ⟨Nat.le_refl _, Nat.zero_le _⟩, ⟨rfl, fun _ => rfl⟩, hout⟩
  exact hb.kept_of_idle rfl ⟨rfl, rfl, rfl⟩

/-- A state with a leader has consumed it. -/
theorem LexState.one_le_offset {q : LexState} {ls : List Byte} (h : q.leaders = some ls) : 1 ≤ q.offset.1 := by
  cases q with
  | branch ch k => cases h
  | _ => revert h; revert ls; decide

/-- Appending does not change the valid bytes before the tail (`40_lexer_core.md` R133). -/
theorem State.append_inByte (bs : List Byte) {i : Nat} (hi : i < s.inlen) : (s.append bs).inByte i = s.inByte i := by
  have hi' : i < s.inlen + bs.length := by omega
  simp only [State.inByte, State.append, readByte, if_pos hi, if_pos hi', Memory.byteAt?_writeBytes]
  rw [if_neg (by omega)]

/-- Appending bytes that fit keeps the candidate as it is. -/
theorem State.Inv.kept_append (h : s.Inv) {bs : List Byte} (hb : s.inlen + bs.length ≤ s.cfg.inCap) :
    s.Kept (s.append bs) := by
  obtain ⟨hcfg, hptr, hin, hout⟩ := h.buffers.append hb
  refine ⟨⟨hcfg, hptr, hin, hout, h.idle, h.counts, h.baseline⟩,
    fun f => ⟨fun ls hls => ?_, f.atLeast, f.exact, f.declared, f.trailer, f.words⟩⟩
  have h1 : 1 ≤ s.rp := (LexState.one_le_offset hls).trans f.atLeast
  rw [State.append_inByte bs (h1.trans h.pointers.1)]
  exact f.leader ls hls

/-- `LEX.FEED` (`40_lexer_core.md` R133) takes no more bytes than fit. -/
theorem State.Inv.kept_lexFeed (h : s.Inv) {bytes : List Byte} (ht : execLexFeed bytes s = .next t) : s.Kept t := by
  cases ht
  have hfit : s.inlen + (bytes.take (min bytes.length (s.cfg.inCap - s.inlen))).length ≤ s.cfg.inCap := by
    have := h.pointers.2
    rw [List.length_take]
    omega
  have ha := h.kept_append hfit
  exact ha.trans (ha.1.kept_host _ s.port s.source)

theorem State.Inv.kept_command (h : s.Inv) {i : Instr} (hi : (encode i).1 = .cmd) (ht : exec i s = .next t) :
    s.Kept t := by
  rcases exec_command hi with rfl | ⟨bs, rfl⟩ | rfl | hr
  · cases ht
    exact h.kept_init
  · exact h.kept_lexFeed ht
  · exact h.kept_lexParse ht
  · obtain ⟨r, hr⟩ := hr s
    cases hr.symm.trans ht
    exact h.kept_host r s.port s.source

theorem rejectCommand_next {e : DecodeError} (h : rejectCommand e s = .next t) : t = s.withResult .illegal := by
  cases e <;> cases h
  rfl

/-- A step of the host: inert without a command, the answer to bytes that are none, or the command. -/
theorem State.Inv.kept_step_host (h : s.Inv) (hs : s.source = .host) (ht : step s = .next t) : s.Kept t := by
  cases hp : s.port with
  | nil =>
    rw [step_host_empty hs hp] at ht
    cases ht
    exact ⟨h, id⟩
  | cons p ps =>
    have hps := h.kept_host s.result ps s.source
    cases hd : decode .cmd p with
    | ok d =>
      obtain ⟨i, tail⟩ := d
      rw [step_host_command hs hp hd] at ht
      exact hps.trans (hps.1.kept_command (decode_cmd_format hd) ht)
    | error e =>
      have hrej : rejectCommand e { s with port := ps } = .next t := by simpa [step, hs, hp, hd] using ht
      rw [rejectCommand_next hrej]
      exact hps.trans (hps.1.kept_host .illegal ps s.source)

/-! ## Every step -/

theorem State.Inv.kept_step (h : s.Inv) (ht : step s = .next t) : s.Kept t := by
  cases hs : s.source with
  | host => exact h.kept_step_host hs ht
  | stream => exact h.kept_step_stream hs ht

end

/-- Settles O15. -/
theorem stepKeepsInv : Obligations.StepKeepsInv := fun _ _ h ht => (h.kept_step ht).1

/-- Settles O16. -/
theorem stepKeepsFrame : Obligations.StepKeepsFrame := fun _ _ h f ht => (h.kept_step ht).2 f

end Sys2Proof.Machine
end

section
/-! PROOFS. What the features with open rules do when they are switched on. -/

namespace Sys2Proof.Machine

section
variable {s : State}

/-! ## The ground dispatch -/

/-- The two rows of a ground byte, by its format and by the ground state, are one iteration. -/
theorem exec_groundRows {i : Instr} {c : Byte} (hi : decodeGb c = i) :
    exec i s = iteration (nextGroundState c) s ∧ exec (.stGroundState c) s = iteration (nextGroundState c) s :=
  ⟨hi ▸ exec_decodeGb c s, rfl⟩

/-- A byte outside the ground dispatch map (`30_encoding.md` R95) is any other byte. -/
theorem nextGroundState_other {c : Byte} (hc : c ∉ groundLeaders) (u : State) :
    nextGroundState c u = nextOtherByte c u := by
  simp only [groundLeaders, List.mem_cons, List.not_mem_nil, or_false, not_or] at hc
  simp only [nextGroundState, hc, if_false]

/-- With RTCM2 on, a byte no leader claims is offered (`41_text_chains.md` R173). -/
theorem iteration_offered {rule : State → Trans} {c : Byte} (h : s.Ready) (h17 : s.cfg.chainEn.getLsbD 17 = true)
    (hr : rule s.consume = nextOtherByte c s.consume) : iteration rule s = .next (s.afterRtcm2Offer c) := by
  rw [iteration_otherByte h hr, if_pos h17]

/-- With RTCM2 on, the leader of a chain that is off is offered, by either row (`41_text_chains.md` R172, R173). -/
theorem exec_leader_offered {i : Instr} {c : Byte} (h : s.Ready) (h17 : s.cfg.chainEn.getLsbD 17 = true)
    (hi : decodeGb c = i) (hr : nextGroundState c s.consume = nextOtherByte c s.consume) :
    exec i s = .next (s.afterRtcm2Offer c) ∧ exec (.stGroundState c) s = .next (s.afterRtcm2Offer c) := by
  obtain ⟨h1, h2⟩ := exec_groundRows (s := s) hi
  have ho := iteration_offered (rule := nextGroundState c) h h17 hr
  exact ⟨h1.trans ho, h2.trans ho⟩

/-- The leader of an open chain that is on enters the chain, by either row (`42_binary_chains.md` R294). -/
theorem exec_openLeader_enters {i : Instr} {c : Byte} {ch : OpenChain} (h : s.Ready) (hi : decodeGb c = i)
    (hr : nextGroundState c s.consume = s.consume.plain (.go (.branch ch (Config.branchEntry ch)))) :
    exec i s = .next (s.afterGo (.branch ch (Config.branchEntry ch))) ∧
      exec (.stGroundState c) s = .next (s.afterGo (.branch ch (Config.branchEntry ch))) := by
  obtain ⟨h1, h2⟩ := exec_groundRows (s := s) hi
  have hg := iteration_go (rule := nextGroundState c) h hr
  exact ⟨h1.trans hg, h2.trans hg⟩

/-! ## The stash switched on -/

/-- The machine with the stash switched on. -/
def State.stashOn (s : State) : State := { s with cfg := { s.cfg with stashEn := true } }

/-- No rule of a chain with rules reads whether the stash is on. -/
theorem LexState.rule_stashOn {q : LexState} (hq : q.isBranch = false) (c : Byte) (s : State) :
    q.rule c s.stashOn = q.rule c s := by
  cases q with
  | branch ch k => cases hq
  | _ => rfl

theorem State.raise_stashOn (s : State) (e : Event) : s.stashOn.raise e = (s.raise e).stashOn := by cases e <;> rfl

theorem State.pushback_stashOn (s : State) (q : LexState) : s.stashOn.pushback q = (s.pushback q).stashOn := by
  unfold State.pushback State.pushToGround
  split
  · change (if 0 < s.rp - 1 then _ else _) = State.stashOn (if 0 < s.rp - 1 then _ else _)
    split
    · exact (s.rewind.goto q).raise_stashOn .framing
    · rfl
  · rfl

theorem State.conclude_stashOn (s : State) (v : Verdict) : s.stashOn.conclude v = (s.conclude v).stashOn := by
  cases v with
  | bad => exact s.raise_stashOn .badCheck
  | accept ty n =>
    rw [State.conclude, State.conclude, apply_ite State.stashOn, ← State.raise_stashOn]
    rfl

theorem State.recognise_stashOn (s : State) (r : Recog) : s.stashOn.recognise r = (s.recognise r).stashOn := by
  have hv : validate s.stashOn.cfg r (s.stashOn.goto r.state).candidate =
      validate s.cfg r (s.goto r.state).candidate := by cases r <;> rfl
  exact (congrArg (s.stashOn.goto r.state).conclude hv).trans (State.conclude_stashOn (s.goto r.state) _)

/-- No performance of an action reads whether the stash is on. -/
theorem perform_stashOn (s : State) (tr : Trans) : perform s.stashOn tr = (perform s tr).stashOn := by
  obtain ⟨act, p, d, r⟩ := tr
  cases act with
  | go q => rfl
  | push q => exact (s.loadTrans ⟨.push q, p, d, r⟩).pushback_stashOn q
  | drop q => rfl
  | cap => exact (s.loadTrans ⟨.cap, p, d, r⟩).raise_stashOn .length
  | recog c => exact (s.loadTrans ⟨.recog c, p, d, r⟩).recognise_stashOn c

/-- With the stash on an iteration does what it does without, and the stash's rules are applied to what it leaves
(log entry 8). -/
theorem iteration_stashOn {q : LexState} (h : s.Ready) (hq : q.isBranch = false) (c : Byte) :
    ∃ t, iteration (q.rule c) s = .next t ∧ iteration (q.rule c) s.stashOn =
      .next (State.withStashView { t with cfg := s.stashOn.cfg } (Config.stashRules s.stashView t.stashView)) := by
  have ht := iteration_ready h (q.rule c)
  have hcfg : (perform s.consume (q.rule c s.consume)).cfg = s.cfg := (iteration_streamFrame ht).cfg
  refine ⟨_, ht, ?_⟩
  have hp : perform s.stashOn.consume (q.rule c s.stashOn.consume) =
      { perform s.consume (q.rule c s.consume) with cfg := s.stashOn.cfg } := by
    change perform s.consume.stashOn (q.rule c s.consume.stashOn) = _
    rw [LexState.rule_stashOn hq, perform_stashOn, State.stashOn, hcfg]
    rfl
  rw [iteration_stash (s := s.stashOn) h.2, hp, State.applyStash_on (s := s.stashOn) rfl]
  rfl

/-! ## The open chains -/

/-- In a state of an open chain a step is the move the chain's rules give, and what the chain accepts has a type of the
chain (log entries 6 and 7). -/
theorem step_openChain (h : s.Ready) {ch : OpenChain} {k : BranchState} (hs : s.source = .stream)
    (hq : s.state = .branch ch k) :
    step s = .next (s.afterBranch ch k (s.inByte s.rp)) ∧
      ∀ j ty n, validateBranch ch j s.nextCandidate = .accept ty n → ty ∈ ch.types ∧ 1 ≤ n ∧ n ≤ s.rp + 1 := by
  have hlen : s.nextCandidate.length = s.rp + 1 := State.inRange_length ..
  refine ⟨(step_stream_branch hs h.2.ne hq).trans (iterateBranch_ready h ch k _), fun j ty n hv => ?_⟩
  exact hlen ▸ validateBranch_accept hv (hlen ▸ Nat.le_add_left _ _)

end

/-- Settles O25: the 17 leaders' rows with their bit clear and the seven open leaders' rows with theirs set are read off
the dispatch map; the other clauses are the lemmas above. -/
theorem openFeatures : Obligations.OpenFeatures := by
  intro s h
  refine ⟨fun h17 => ⟨fun c => iteration_offered h h17 rfl, fun c hc => ?_, fun p hp hb => ?_⟩, fun p hp hb => ?_,
    fun ch k hs hq => step_openChain h hs hq, fun q c i hi => ?_⟩
  · exact iteration_offered (rule := nextGroundState c) h h17 (nextGroundState_other hc _)
  · have hn : ¬s.cfg.chainEn.getLsbD p.2.2 = true := by simp [hb]
    clear hb
    simp only [List.mem_cons, List.not_mem_nil, or_false] at hp
    rcases hp with rfl | rfl | rfl | rfl | rfl | rfl | rfl | rfl | rfl | rfl | rfl | rfl | rfl | rfl | rfl | rfl | rfl <;>
      exact exec_leader_offered h h17 rfl (if_neg hn)
  · simp only [List.mem_cons, List.not_mem_nil, or_false] at hp
    rcases hp with rfl | rfl | rfl | rfl | rfl | rfl | rfl <;> exact exec_openLeader_enters h rfl (if_pos hb)
  · have hrow (u : State) : exec i u = iteration (q.rule c) u :=
      hi.elim (exec_stateRow · u) (exec_decodeStream · u)
    obtain ⟨t, ht, hon⟩ := iteration_stashOn h (isBranch_of_row hi) c
    exact ⟨t, (hrow s).trans ht, (hrow s.stashOn).trans hon⟩

end Sys2Proof.Machine
end

section
/-! PROOFS. What the action of a rule may be in its state, said once for all rows. -/

namespace Sys2Proof.Machine

/-- How many pushbacks may have given a byte back when the automaton stands in a state: the longest chain leads from
`JSON_VALUE` over `JSON_BODY` to the ground state (`40_lexer_core.md` R146). -/
def LexState.pushRank : LexState → Nat
  | .groundState => 2
  | .jsonBody => 1
  | _ => 0

theorem LexState.pushRank_le (q : LexState) : q.pushRank ≤ 2 := by
  unfold LexState.pushRank
  split <;> decide

/-- What the action of a transition from `s` may be: a pushback leads up in rank, a drop happens with no candidate
under way, and outside the text chains a recognised candidate, with the byte consumed, is no longer than
`MAX_PACKET_LENGTH` (`40_lexer_core.md` R138, R140, R144). -/
def State.Permits (s : State) (tr : Trans) : Prop :=
  match tr.act with
  | .go _ => True
  | .push q => s.state.pushRank < q.pushRank
  | .drop _ => s.state.isIdle = true
  | .cap => True
  | .recog _ => s.state.isText = false → s.FrameOk → s.rp + 1 ≤ s.cfg.maxPacketLength

section
variable {s : State} {q q' pay trailer : LexState} {r : Recog} {a b : Trans} {p d m : Nat}

theorem State.Permits.ite {c : Prop} [Decidable c] (ha : s.Permits a) (hb : s.Permits b) :
    s.Permits (if c then a else b) := by
  split <;> assumption

theorem State.Permits.go : s.Permits ⟨.go q', p, d, m⟩ := trivial

theorem State.Permits.pushGround (hq : s.state = q) (h : q.pushRank < 2) :
    s.Permits (s.consume.plain (.push .groundState)) := by
  subst hq
  exact h

theorem State.Permits.expect {ok : Bool} (hq : s.state = q) (h : q.pushRank < 2) :
    s.Permits (s.consume.expect ok q') := .ite .go (.pushGround hq h)

theorem State.Permits.drop (hq : s.state = q) (h : q.isIdle = true) : s.Permits ⟨.drop q', p, d, m⟩ := by
  subst hq
  exact h

theorem State.Permits.countdown : s.Permits (s.consume.countdown pay trailer) := .ite .go .go

theorem State.Permits.lengthTest {c : Prop} [Decidable c] :
    s.Permits (s.consume.load p (if c then .cap else .go q')) := by
  split <;> trivial

/-- A recognition in a text chain, whose candidates no length test bounds (`40_lexer_core.md` R144). -/
theorem State.Permits.recogText (hq : s.state = q) (h : q.isText = true) : s.Permits ⟨.recog r, p, d, m⟩ := by
  subst hq
  exact fun hn => absurd (h.symm.trans hn) nofun

/-- The recognition of the byte that completes a declared frame (`40_lexer_core.md` R152). -/
theorem State.Permits.recogLast (hq : s.state = q) {k : Nat} (hr : q.remaining = some k) (hk : 1 ≤ s.pending + k) :
    s.Permits ⟨.recog r, p, d, m⟩ := by
  subst hq
  intro _ f
  have := f.declared k hr
  omega

/-- The ground dispatch map (`41_text_chains.md` R171 to R173): into a chain, or dropped. -/
theorem State.Permits.groundState (hq : s.state = .groundState) (c : Byte) :
    s.Permits (nextGroundState c s.consume) := by
  have other (c : Byte) : s.Permits (nextOtherByte c s.consume) := by
    refine .ite ?_ (.drop hq rfl)
    unfold rtcm2Offer
    split
    · exact .drop hq rfl
    · exact .go
    · exact .go
  have known {bit : Nat} {c : Byte} {q' : LexState} : s.Permits (leader s.consume bit c q') := .ite .go (other c)
  have opens {bit : Nat} {c : Byte} {ch : OpenChain} : s.Permits (openLeader s.consume bit c ch) := .ite .go (other c)
  exact .ite known <| .ite known <| .ite known <| .ite (.ite .go (other _)) <| .ite known <| .ite known <|
    .ite known <| .ite known <| .ite opens <| .ite opens <| .ite opens <| .ite opens <| .ite opens <|
    .ite known <| .ite opens <| .ite known <| .ite opens (other c)

/-- The twelve talker rows (`41_text_chains.md` R177). -/
theorem State.Permits.nmeaDollar (hq : s.state = .nmeaDollar) (c : Byte) : s.Permits (nextNmeaDollar c s.consume) :=
  .ite .go <| .ite .go <| .ite .go <| .ite .go <| .ite .go <| .ite .go <| .ite .go <| .ite .go <| .ite .go <|
    .ite .go <| .ite .go <| .pushGround hq (by decide)

/-- `NmeaBody` (`41_text_chains.md` R184), the rule of four states. -/
theorem State.Permits.nmeaBody (hq : s.state = q) (h : q.pushRank < 2 ∧ q.isText = true) (c : Byte) :
    s.Permits (nmeaBody c s.consume) :=
  .ite .go <| .ite (.recogText hq h.2) <| .ite (.pushGround hq h.1) <| .expect hq h.1

/-- `JSON_BODY` (`41_text_chains.md` R194). -/
theorem State.Permits.jsonBody (hq : s.state = .jsonBody) (c : Byte) : s.Permits (nextJsonBody c s.consume) := by
  refine .ite .go <| .ite ?_ <| .ite .go <| .ite .go <| .expect hq (by decide)
  split
  · exact .recogText hq rfl
  · exact .go

/-- `GREIS_LENGTH_2` (`42_binary_chains.md` R280): an empty body makes a frame of the five bytes consumed. -/
theorem State.Permits.greisLength2 (hcfg : s.cfg.wf) (hq : s.state = .greisLength2) (c : Byte) :
    s.Permits (nextGreisLength2 c s.consume) := by
  refine .ite ?_ (.pushGround hq (by decide))
  dsimp only
  split
  · trivial
  · split
    · intro _ f
      have hrp : s.rp = 4 := by simpa [hq, LexState.offset] using f.exact
      have := hcfg.1
      omega
    · exact .go

/-- The GREIS countdown (`42_binary_chains.md` R282): the payload byte that is counted down to zero ends the frame. -/
theorem State.Permits.greisCountdown (hq : s.state = q) (h : q.pushRank < 2 ∧ q.remaining = some 0) :
    s.Permits (greisCountdown s.consume) := by
  obtain ⟨hpush, hrem⟩ := h
  unfold Machine.greisCountdown
  split
  · exact .pushGround hq hpush
  · next h0 =>
    split
    · exact .recogLast hq hrem (Nat.pos_of_ne_zero h0)
    · exact .go

/-- Whatever the state and the byte, the rule's action is one the state permits. -/
theorem State.Inv.rule_permits (h : s.Inv) (c : Byte) : s.Permits (s.state.rule c s.consume) := by
  cases hq : s.state with
  | groundState => exact .groundState hq c
  | nmeaDollar => exact .nmeaDollar hq c
  | jsonBody => exact .jsonBody hq c
  | commentBody => exact .ite (.recogText hq rfl) (.expect hq (by decide))
  | commentRecognized | nmeaLeadG | nmeaLeadA | nmeaLeadB | nmeaLeadH | nmeaLeadI | nmeaLeadQ | nmeaLeadS | nmeaLeadT
  | nmeaLeadW | nmeaLeadY | nmeaBang | aisLead1 | ubxLeader1 | ubxRecognized | allyLeader1 | allyRecognized
  | casicLeader1 | casicRecognized | geostarLeader1 | geostarLeader2 | geostarLeader3 | geostarRecognized | greisId1
  | rtcm3Recognized => exact .expect hq (by decide)
  | nmeaVendorLead => exact .ite .go (.expect hq (by decide))
  | nmeaPashrA | nmeaPashrS | nmeaPashrH => exact .ite .go (.nmeaBody hq (by decide) c)
  | nmeaLeaderEnd => exact .nmeaBody hq (by decide) c
  | nmeaBinaryBody => exact .ite .go .go
  | nmeaBinaryCr => exact .ite (.recogText hq rfl) (.ite .go .go)
  | nmeaCr => exact .ite (.recogText hq rfl) (.pushGround hq (by decide))
  | nmeaRecognized => exact .ite .go <| .ite .go <| .pushGround hq (by decide)
  | jsonString => exact .ite .go <| .ite .go <| .expect hq (by decide)
  | jsonValue =>
    have hbody : s.state.pushRank < LexState.jsonBody.pushRank := by rw [hq]; decide
    exact .ite .go hbody
  | jsonRecognized | greisId2 | greisLength1 => exact .ite .go (.pushGround hq (by decide))
  | rtcm3Leader1 => exact .ite (.pushGround hq (by decide)) .go
  | jsonEscape | ubxLeader2 | ubxClassId | ubxMessageId | allyLeader2 | allyClassId | allyMessageId | casicLeader2
  | casicLength2 | casicClassId | casicChecksum1 | casicChecksum2 | geostarLeader4 | geostarMessageId1
  | geostarMessageId2 | geostarChecksum1 | geostarChecksum2 | rtcm3Crc1 => exact .go
  | ubxLength1 | allyLength1 | geostarLength1 | rtcm3Length1 => exact .lengthTest
  | casicLength1 => exact .ite trivial <| .ite (.pushGround hq (by decide)) .go
  | ubxLength2 | ubxPayload | allyLength2 | allyPayload | casicMessageId | casicPayload | geostarLength2
  | geostarPayload | rtcm3Length2 | rtcm3Payload => exact .countdown
  | ubxChecksumA | allyChecksumA | casicChecksum3 | geostarChecksum3 | rtcm3Crc2 =>
    exact .recogLast hq rfl (Nat.le_add_left _ _)
  | greisLength2 => exact .greisLength2 h.cfg hq c
  | greisLength3 | greisPayload => exact .greisCountdown hq (by decide)
  | greisRecognized => exact .ite (.drop hq rfl) <| .ite (.pushGround hq (by decide)) <| .expect hq (by decide)
  | branch ch k => exact absurd ((congrArg LexState.isBranch hq).symm.trans h.baseline) nofun

end

end Sys2Proof.Machine
end

section
/-! PROOFS. The declared lengths: what they guarantee of `E_OVERSIZE` and of the word-oriented checksums. -/

namespace Sys2Proof.Machine

/-! ## The candidates a recognition accepts -/

theorem strippedLength_le (cand : List Byte) : strippedLength cand ≤ cand.length := by
  have := (List.dropWhile_sublist isLineEnd (l := cand.reverse)).length_le
  rwa [List.length_reverse] at this

/-- No validation pass accepts more than the candidate (`40_lexer_core.md` R142). -/
theorem validate_accept_le {cfg : Config} {r : Recog} {cand : List Byte} {ty : PacketType} {n : Nat}
    (h : validate cfg r cand = .accept ty n) : n ≤ cand.length := by
  have hs := strippedLength_le cand
  cases r with
  | branch ch k =>
    simp only [validate, validateBranch] at h
    split at h <;> cases h
    exact Nat.min_le_right _ _
  | _ =>
    simp only [validate, validateComment, validateNmea, validateJson, validateUbx, validateAllystar, validateCasic,
      validateGeostar, validateGreis, validateRtcm3] at h
    repeat' split at h
    all_goals cases h
    all_goals omega

section
variable {s t : State}

/-- The events by what they add to the log (`60_exceptions.md` R381). -/
theorem State.raise_log (s : State) (e : Event) : (s.raise e).log = s.log ++ [⟨e.severity, e⟩] := by cases e <;> rfl

/-- An accepted candidate over a capacity (`40_lexer_core.md` R144). -/
theorem State.conclude_over {ty : PacketType} {n : Nat} (h : s.cfg.maxPacketLength < n ∨ s.cfg.outCap - 1 < n) :
    s.conclude (.accept ty n) = s.raise .oversize := if_pos h

/-- An accepted candidate within both capacities (`40_lexer_core.md` R143). -/
theorem State.conclude_within {ty : PacketType} {n : Nat} (h : ¬(s.cfg.maxPacketLength < n ∨ s.cfg.outCap - 1 < n)) :
    s.conclude (.accept ty n) = s.acceptPacket ty n := if_neg h

/-- Only the length test of a validation pass raises `E_OVERSIZE` (`40_lexer_core.md` R144). -/
theorem State.oversize_of_conclude {v : Verdict} (h : (s.conclude v).log = s.log ++ [⟨.high, .oversize⟩]) :
    ∃ ty n, v = .accept ty n ∧ (s.cfg.maxPacketLength < n ∨ s.cfg.outCap - 1 < n) := by
  cases v with
  | bad => simp [State.conclude, State.raise_log] at h
  | accept ty n =>
    refine ⟨ty, n, rfl, ?_⟩
    by_contra hc
    have hlog : (s.acceptPacket ty n).log = s.log := rfl
    simp [State.conclude_within hc, hlog] at h

/-- An iteration that logs `E_OVERSIZE` recognised a candidate over a capacity. -/
theorem State.oversize_of_perform {tr : Trans} (h : (perform s tr).log = s.log ++ [⟨.high, .oversize⟩]) :
    (∃ r, tr.act = .recog r) ∧ (s.cfg.maxPacketLength < s.rp ∨ s.cfg.outCap - 1 < s.rp) := by
  rcases perform_cases s tr with ⟨q, -, he⟩ | ⟨q, -, he⟩ | ⟨q, -, he⟩ | ⟨-, he⟩ | ⟨r, hr, he⟩ <;> rw [he] at h
  · simp at h
  · rcases (s.loadTrans tr).pushback_cases q with ⟨-, hp⟩ | ⟨-, -, hp⟩ | ⟨-, -, hp⟩ <;> rw [hp] at h
    · simp at h
    · simp [State.raise_log] at h
    · simp at h
  · simp [State.drop] at h
  · simp [State.raise_log] at h
  · obtain ⟨ty, n, hv, hn⟩ := State.oversize_of_conclude (s := (s.loadTrans tr).goto r.state) h
    have hle := validate_accept_le hv
    rw [State.candidate_length] at hle
    simp only [State.goto_cfg, State.loadTrans_cfg, State.goto_rp, State.loadTrans_rp] at hn hle
    exact ⟨⟨r, hr⟩, by omega⟩

/-- A frame within `MAX_PACKET_LENGTH` is within both capacities (`00_scope.md` R8), so outside the text chains no
iteration raises `E_OVERSIZE`. -/
theorem State.Inv.isText_of_oversize (h : s.Inv) (f : s.FrameOk)
    (ht : iteration (s.state.rule (s.inByte s.rp)) s = .next t) (hlog : t.log = s.log ++ [⟨.high, .oversize⟩]) :
    s.state.isText = true := by
  obtain ⟨-, rfl⟩ := iteration_next ht
  rw [State.applyStash_off h.stash_off] at hlog
  obtain ⟨⟨r, hr⟩, hover⟩ := State.oversize_of_perform (s := s.consume) hlog
  have hpermits := h.rule_permits (s.inByte s.rp)
  rw [State.Permits, hr] at hpermits
  by_contra htext
  have hfit := hpermits (by simpa using htext) f
  obtain ⟨-, -, hout, -⟩ := h.cfg
  simp only [State.consume_cfg, State.consume_rp] at hover
  omega

/-- A step within a `LEX.PARSE` with a byte to consume is an iteration of the state's rule (`10_state.md` R26). -/
theorem step_stream_rule (hs : s.source = .stream) (hrp : s.rp ≠ s.inlen) :
    step s = iteration (s.state.rule (s.inByte s.rp)) s := by
  cases hd : decodeStream s.state (s.inByte s.rp) with
  | some i => rw [step_stream_row hs hrp hd, exec_decodeStream hd]
  | none => rw [step_stream_noRow hs hrp hd, iterate, iterateIn_eq]

/-! ## The word-oriented checksums -/

/-- A sequence is cut into words exactly when its length is a multiple of 4 (`20_memory.md` R67). -/
theorem le32Words_isSome : ∀ v : List Byte, (le32Words v).isSome = decide (v.length % 4 = 0)
  | [] | [_] | [_, _] | [_, _, _] => rfl
  | _ :: _ :: _ :: _ :: rest => by
    rw [le32Words, Option.isSome_map, le32Words_isSome rest]
    exact decide_eq_decide.2 (by simp only [List.length_cons]; omega)

theorem sum32_isSome {v : List Byte} (h : v.length % 4 = 0) : (sum32 v).isSome = true := by
  rw [sum32, Option.isSome_map, le32Words_isSome, decide_eq_true h]

theorem xor32_isSome {v : List Byte} (h : v.length % 4 = 0) : (xor32 v).isSome = true := by
  rw [xor32, Option.isSome_map, le32Words_isSome, decide_eq_true h]

@[simp] theorem State.nextCandidate_length (s : State) : s.nextCandidate.length = s.rp + 1 := State.inRange_length ..

/-- In the last state of a trailer one byte completes the frame, whose length has the chain's remainder modulo 4. -/
theorem State.FrameOk.wordPhase_last (f : s.FrameOk) {q : LexState} (hq : s.state = q) {r : Nat}
    (hlast : q.remaining = some 1 ∧ q.isTrailer = true ∧ q.wordPhase = some r) : (s.rp + 1) % 4 = r := by
  subst hq
  obtain ⟨hrem, htrailer, hphase⟩ := hlast
  simpa [f.trailer htrailer] using f.words 1 r hrem hphase

end

/-- Settles O21: the events of the final test are others, and in the two last trailer states the frame's length has the
remainder of its chain. -/
theorem declaredLengthGuarantees : Obligations.DeclaredLengthGuarantees := by
  intro s h f
  refine ⟨fun t hs ht hlog => ?_, fun hq => sum32_isSome ?_, fun hq => xor32_isSome ?_⟩
  · by_cases hrp : s.rp = s.inlen
    · rw [step_stream_exhausted hs hrp] at ht
      cases ht
      rcases s.exhausted_cases with ⟨-, he⟩ | ⟨-, he⟩ <;> simp [he, State.raise_log] at hlog
    · exact h.isText_of_oversize f (step_stream_rule hs hrp ▸ ht) hlog
  · have hphase := f.wordPhase_last hq (r := 2) (by decide)
    have hat := f.atLeast
    rw [hq] at hat
    change 9 ≤ s.rp at hat
    simp only [List.length_drop, List.length_take, State.nextCandidate_length]
    omega
  · rw [State.nextCandidate_length]
    exact f.wordPhase_last hq (by decide)

end Sys2Proof.Machine
end

section
/-! PROOFS. The bound on the iterations of a `LEX.PARSE`: each iteration that does not end the command brings its work
down, so the command has the same outcome under every bound that its work does not exceed. -/

namespace Sys2Proof.Machine

section
variable {s t : State}

/-! ## What an iteration leaves -/

/-- No recognition delivers a packet of type `NONE`. -/
theorem Recog.none_not_mem_types (r : Recog) : PacketType.none ∉ r.types := by
  cases r with
  | branch ch k => cases ch <;> simp [Recog.types, OpenChain.types]
  | _ => simp [Recog.types]

/-- The end of a validation pass ends the command, and with no fragment (`40_lexer_core.md` R143 to R145). -/
theorem State.conclude_ends (s : State) {v : Verdict} (hv : ∀ ty n, v = .accept ty n → ty ≠ .none) :
    (s.conclude v).source = .host ∧ (s.conclude v).result ≠ .parse .none 0 false := by
  cases v with
  | bad => exact ⟨rfl, nofun⟩
  | accept ty n =>
    by_cases hc : s.cfg.maxPacketLength < n ∨ s.cfg.outCap - 1 < n
    · rw [State.conclude_over hc]
      exact ⟨rfl, nofun⟩
    · rw [State.conclude_within hc]
      exact ⟨rfl, fun he => hv ty n rfl (Result.parse.inj he).1⟩

/-- So does a recognition, whose packets are never of type `NONE`. -/
theorem State.recognise_ends (s : State) (r : Recog) :
    (s.recognise r).source = .host ∧ (s.recognise r).result ≠ .parse .none 0 false :=
  (s.goto r.state).conclude_ends fun _ _ hv hn => r.none_not_mem_types (hn ▸ validate_accept_type hv)

theorem Source.eq_stream {c : Source} (h : c ≠ .host) : c = .stream := by
  cases c with
  | host => exact absurd rfl h
  | stream => rfl

theorem State.pushback_source (s : State) (q : LexState) : (s.pushback q).source = s.source := by
  rcases s.pushback_cases q with ⟨-, h⟩ | ⟨-, -, h⟩ | ⟨-, -, h⟩ <;> rw [h] <;> rfl

/-- An action that ends the command does not end it with a fragment (`40_lexer_core.md` R151). -/
theorem perform_result_of_ends {tr : Trans} (hs : s.source = .stream) (hp : (perform s tr).source = .host) :
    (perform s tr).result ≠ .parse .none 0 false := by
  have goesOn {u : State} (hu : u.source = s.source) (hh : u.source = .host) : False := by
    rw [hu, hs] at hh
    cases hh
  rcases perform_cases s tr with ⟨q, -, he⟩ | ⟨q, -, he⟩ | ⟨q, -, he⟩ | ⟨-, he⟩ | ⟨r, -, he⟩ <;> rw [he] at hp ⊢
  · exact (goesOn rfl hp).elim
  · exact (goesOn ((s.loadTrans tr).pushback_source q) hp).elim
  · exact (goesOn rfl hp).elim
  · exact nofun
  · exact ((s.loadTrans tr).recognise_ends r).2

theorem State.Inv.rp_lt (h : s.Inv) (hrp : s.rp ≠ s.inlen) : s.rp < s.inlen := lt_of_le_of_ne h.pointers.1 hrp

/-- The state an iteration leaves (`40_lexer_core.md` R136), with the stash off. -/
theorem State.Inv.iterate_eq (h : s.Inv) (hrp : s.rp ≠ s.inlen) :
    iterate s = .next (perform s.consume (s.state.rule (s.inByte s.rp) s.consume)) := by
  rw [iterate, iterateIn_eq]
  exact iteration_ready ⟨h.stash_off, h.rp_lt hrp⟩ _

/-! ## The work of a `LEX.PARSE` -/

/-- How many iterations a `LEX.PARSE` may take from a state (`40_lexer_core.md` R146): three a byte, less the
pushbacks that may have given the next byte back already. -/
def State.work (s : State) : Nat := 3 * (s.inlen - s.rp) - s.state.pushRank

theorem State.work_le (s : State) : s.work ≤ 3 * (s.inlen - s.rp) := Nat.sub_le _ _

theorem State.work_pos (h : s.rp < s.inlen) : 0 < s.work := by
  have := s.state.pushRank_le
  unfold State.work
  omega

/-- An iteration that consumes its byte for good. -/
theorem State.work_lt_of_consumed (h : s.rp < s.inlen) (ht : t.inlen - t.rp = s.inlen - s.rp - 1) : t.work < s.work := by
  have := s.state.pushRank_le
  unfold State.work
  omega

/-- An iteration that gives its byte back, to a state of higher rank. -/
theorem State.work_lt_of_pushed (h : s.rp < s.inlen) (ht : t.inlen - t.rp = s.inlen - s.rp)
    (hq : s.state.pushRank < t.state.pushRank) : t.work < s.work := by
  have := t.state.pushRank_le
  unfold State.work
  omega

/-- After a pushback as many bytes are unconsumed as before the iteration, and the automaton is in the state named. -/
theorem State.pushback_unread (u : State) (q : LexState) :
    (u.pushback q).state = q ∧ (u.pushback q).inlen - (u.pushback q).rp = u.inlen - (u.rp - 1) := by
  rcases u.pushback_cases q with ⟨-, h⟩ | ⟨hq, -, h⟩ | ⟨-, -, h⟩ <;> rw [h]
  · exact ⟨rfl, rfl⟩
  · exact ⟨hq.symm, rfl⟩
  · exact ⟨rfl, rfl⟩

/-- An action that the state permits and that does not end the command brings the work down. -/
theorem State.Inv.work_perform_lt (h : s.Inv) (hlt : s.rp < s.inlen) {tr : Trans} (hp : s.Permits tr)
    (hs : (perform s.consume tr).source = .stream) : (perform s.consume tr).work < s.work := by
  unfold State.Permits at hp
  rcases perform_cases s.consume tr with ⟨q, -, he⟩ | ⟨q, ha, he⟩ | ⟨q, ha, he⟩ | ⟨-, he⟩ | ⟨r, -, he⟩ <;>
    rw [he] at hs ⊢
  · exact State.work_lt_of_consumed hlt (Nat.sub_sub _ _ _ ▸ rfl)
  · rw [ha] at hp
    obtain ⟨hq, hunread⟩ := (s.consume.loadTrans tr).pushback_unread q
    exact State.work_lt_of_pushed hlt hunread (by rwa [hq])
  · rw [ha] at hp
    obtain ⟨-, -, h0⟩ := h.idle hp
    exact State.work_lt_of_consumed hlt (by simp [State.drop, h0])
  · cases hs
  · cases hs.symm.trans ((s.consume.loadTrans tr).recognise_ends r).1

/-- An iteration that does not end the command brings the work down (`40_lexer_core.md` R146, `70_reset_and_hazards.md`
R422). -/
theorem State.Inv.work_lt (h : s.Inv) (hrp : s.rp ≠ s.inlen) (hi : iterate s = .next t) (hs : t.source = .stream) :
    t.work < s.work := by
  cases (h.iterate_eq hrp).symm.trans hi
  exact h.work_perform_lt (h.rp_lt hrp) (h.rule_permits _) hs

/-- The loop of `LEX.PARSE` answers the same under every bound that the work does not exceed. -/
theorem State.Inv.parseLoop_congr (h : s.Inv) {b b' : Nat} (hb : s.work ≤ b) (hb' : s.work ≤ b') :
    parseLoop b s = parseLoop b' s := by
  induction b generalizing s b' with
  | zero =>
    have hrp : s.rp = s.inlen := by
      by_contra hrp
      have := State.work_pos (h.rp_lt hrp)
      omega
    rw [parseLoop_exhausted _ hrp, parseLoop_exhausted _ hrp]
  | succ k ih =>
    by_cases hrp : s.rp = s.inlen
    · rw [parseLoop_exhausted _ hrp, parseLoop_exhausted _ hrp]
    · have hpos := State.work_pos (h.rp_lt hrp)
      obtain ⟨k', rfl⟩ : ∃ k', b' = k' + 1 := ⟨b' - 1, by omega⟩
      have hi := h.iterate_eq hrp
      rw [parseLoop_step k hrp hi, parseLoop_step k' hrp hi]
      split
      · rfl
      · next hsrc =>
        have hlt := h.work_lt hrp hi (Source.eq_stream hsrc)
        exact ih (h.kept_iterate hi).1 (by omega) (by omega)

/-- `LEX.PARSE` is its loop under any bound that the work does not exceed. -/
theorem State.Inv.execLexParse_eq (h : s.Inv) (hs : s.source = .stream) {b : Nat} (hb : s.work ≤ b) :
    execLexParse s = parseLoop b s := by
  have hself : { s with source := .stream } = s := by rw [← hs]
  rw [execLexParse, hself, State.iterationBound_off h.stash_off]
  exact h.parseLoop_congr s.work_le hb

/-- A `LEX.PARSE` that goes on after an iteration is the `LEX.PARSE` from the state the iteration leaves. -/
theorem State.Inv.execLexParse_iterate (h : s.Inv) (hs : s.source = .stream) (hrp : s.rp ≠ s.inlen)
    (hi : iterate s = .next t) (ht : t.source = .stream) : execLexParse s = execLexParse t := by
  have hlt := h.work_lt hrp hi ht
  obtain ⟨k, hk⟩ : ∃ k, s.work = k + 1 := ⟨s.work - 1, by omega⟩
  have hgo : ¬t.source = .host := by rw [ht]; nofun
  rw [h.execLexParse_eq hs hk.le, parseLoop_step k hrp hi, if_neg hgo,
    (h.kept_iterate hi).1.execLexParse_eq ht (b := k) (by omega)]

end

end Sys2Proof.Machine
end

section
/-! PROOFS. A `LEX.PARSE` that ended in a fragment resumes: feeding bytes commutes with every iteration that does not end
the command. -/

namespace Sys2Proof.Machine

/-! ## Feeding -/

/-- What a `LEX.FEED` of bytes that fit leaves (`40_lexer_core.md` R133). -/
def State.fed (s : State) (bs : List Byte) : State := (s.append bs).withResult (.count bs.length)

section
variable {s t : State} {bs : List Byte}

theorem execLexFeed_fits (hb : s.inlen + bs.length ≤ s.cfg.inCap) : execLexFeed bs s = .next (s.fed bs) := by
  have hk : min bs.length (s.cfg.inCap - s.inlen) = bs.length := by omega
  rw [execLexFeed, hk, List.take_length]
  rfl

theorem State.Inv.kept_fed (h : s.Inv) (hb : s.inlen + bs.length ≤ s.cfg.inCap) : s.Kept (s.fed bs) :=
  have ha := h.kept_append hb
  ha.trans (ha.1.kept_host _ s.port s.source)

/-- Cutting off the bytes before `lo` and appending after the valid content do not meet. -/
theorem Memory.window_writeBytes {m : Memory} (h : m.wf = true) {lo hi : Nat} (hlo : lo ≤ hi) (bs : List Byte) :
    (m.writeBytes hi bs).window lo (hi + bs.length) = (m.window lo hi).writeBytes (hi - lo) bs := by
  refine Memory.ext_byteAt? _ _ (Memory.wf_window _ _ _ (Memory.wf_writeBytes _ _ _ h))
    (Memory.wf_writeBytes _ _ _ (Memory.wf_window _ _ _ h)) fun i => ?_
  simp only [Memory.byteAt?_window, Memory.byteAt?_writeBytes]
  by_cases hold : lo + i < hi
  · rw [if_pos (by omega), if_neg (by omega), if_neg (by omega), if_pos hold]
  · by_cases hnew : lo + i < hi + bs.length
    · rw [if_pos hnew, if_pos (by omega), if_pos (by omega)]
      congr 1
      omega
    · rw [if_neg hnew, if_neg (by omega), if_neg hold]

/-- `Shift` (`20_memory.md` R72) commutes with a feed. -/
theorem State.shift_fed (h : s.inbuf.wf = true) {n : Nat} (hn : n ≤ s.inlen) :
    (s.fed bs).shift n = (s.shift n).fed bs := by
  have hw := Memory.window_writeBytes h hn bs
  have hlen : s.inlen + bs.length - n = s.inlen - n + bs.length := by omega
  simp only [State.fed, State.withResult, State.append, State.shift, hw, hlen]

/-- The one event that does not end the command commutes with a feed: it discards the candidate alone. -/
theorem State.raise_framing_fed (h : s.inbuf.wf = true) (hrp : s.rp ≤ s.inlen) :
    (s.fed bs).raise .framing = (s.raise .framing).fed bs := by
  have hs := State.shift_fed (s := s.logEvent .framing) (bs := bs) h hrp
  exact congrArg (fun u => u.setIdle.goto .groundState) hs

theorem State.pushback_fed (h : s.inbuf.wf = true) (hrp : s.rp ≤ s.inlen) (q : LexState) :
    (s.fed bs).pushback q = (s.pushback q).fed bs := by
  unfold State.pushback State.pushToGround
  split
  · change (if 0 < s.rp - 1 then _ else _) = State.fed (if 0 < s.rp - 1 then _ else _) bs
    split
    · exact State.raise_framing_fed (s := s.rewind.goto q) h ((Nat.sub_le _ _).trans hrp)
    · rfl
  · rfl

/-- Feeding commutes with every action that does not end the command. -/
theorem perform_fed (h : s.inbuf.wf = true) (hrp : s.rp ≤ s.inlen) (hpos : 1 ≤ s.inlen) {tr : Trans}
    (hs : (perform s tr).source = .stream) : perform (s.fed bs) tr = (perform s tr).fed bs := by
  obtain ⟨act, p, d, m⟩ := tr
  cases act with
  | go q => rfl
  | push q => exact State.pushback_fed (s := s.loadTrans ⟨.push q, p, d, m⟩) h hrp q
  | drop q => exact State.shift_fed (s := (s.loadTrans ⟨.drop q, p, d, m⟩).goto q) h hpos
  | cap => cases hs
  | recog r => cases hs.symm.trans ((s.loadTrans ⟨.recog r, p, d, m⟩).recognise_ends r).1

theorem State.fed_inByte {i : Nat} (hi : i < s.inlen) : (s.fed bs).inByte i = s.inByte i := State.append_inByte bs hi

/-- No rule reads a byte the feed brings: only the second AIS address state reads the buffer at all, the byte `inbuf[1]`
(`41_text_chains.md` R191). -/
theorem LexState.rule_fed {q : LexState} (hq : q.isBranch = false) (h1 : q = .aisLead1 → 1 < s.inlen) (c : Byte) :
    q.rule c (s.fed bs).consume = q.rule c s.consume := by
  cases q with
  | branch ch k => cases hq
  | aisLead1 =>
    have hb : (s.fed bs).consume.inByte 1 = s.consume.inByte 1 := State.fed_inByte (h1 rfl)
    simp only [LexState.rule, nextAisLead1, hb]
    rfl
  | _ => rfl

/-- Feeding commutes with every iteration that does not end the command. -/
theorem State.Inv.iterate_fed (h : s.Inv) (f : s.FrameOk) (hrp : s.rp ≠ s.inlen)
    (hb : s.inlen + bs.length ≤ s.cfg.inCap) (hi : iterate s = .next t) (hs : t.source = .stream) :
    iterate (s.fed bs) = .next (t.fed bs) := by
  have hlt : s.rp < s.inlen := h.rp_lt hrp
  cases (h.iterate_eq hrp).symm.trans hi
  have hrp' : (s.fed bs).rp ≠ (s.fed bs).inlen := (hlt.trans_le (Nat.le_add_right _ _)).ne
  have hais : s.state = .aisLead1 → 1 < s.inlen := fun hq => by
    have hat := f.atLeast
    rw [hq] at hat
    exact lt_of_lt_of_le hat h.pointers.1
  have hrule := LexState.rule_fed (bs := bs) h.baseline hais (s.inByte s.rp)
  have hbyte : (s.fed bs).inByte (s.fed bs).rp = s.inByte s.rp := State.fed_inByte hlt
  rw [(h.kept_fed hb).1.iterate_eq hrp', hbyte]
  exact congrArg Host.Outcome.next <| (congrArg (perform (s.fed bs).consume) hrule).trans
    (perform_fed (s := s.consume) h.input.1 hlt (Nat.zero_lt_of_lt hlt) hs)

/-! ## The fragment -/

theorem State.raise_inlen_le (s : State) (e : Event) : (s.raise e).inlen ≤ s.inlen := by
  cases e <;>
    simp [State.raise_framing, State.raise_badCheck, State.raise_oversize, State.raise_length, State.raise_full]

/-- No action adds a byte to the input buffer. -/
theorem perform_inlen_le (s : State) (tr : Trans) : (perform s tr).inlen ≤ s.inlen := by
  rcases perform_cases s tr with ⟨q, -, he⟩ | ⟨q, -, he⟩ | ⟨q, -, he⟩ | ⟨-, he⟩ | ⟨r, -, he⟩ <;> rw [he]
  · exact Nat.le_refl _
  · rcases (s.loadTrans tr).pushback_cases q with ⟨-, hp⟩ | ⟨-, -, hp⟩ | ⟨-, -, hp⟩ <;> rw [hp]
    · exact Nat.le_refl _
    · exact ((s.loadTrans tr).rewind.goto q).raise_inlen_le .framing
    · exact Nat.le_refl _
  · exact Nat.sub_le _ _
  · exact (s.loadTrans tr).raise_inlen_le .length
  · rcases (s.loadTrans tr).recognise_cases r with ⟨ty, n, -, -, -, hp⟩ | ⟨e, hp⟩ <;> rw [hp]
    · exact Nat.sub_le _ _
    · exact ((s.loadTrans tr).goto r.state).raise_inlen_le e

/-- `t` is a state of the `LEX.PARSE` from `s` in which `bs` still fit, and as long as the command goes on or when it
ended in a fragment, `LEX.PARSE` after feeding `bs` to `t` is the one after feeding them to `s`. -/
structure State.Resumes (s t : State) (bs : List Byte) : Prop where
  inv : t.Inv
  frame : t.FrameOk
  fits : t.inlen + bs.length ≤ t.cfg.inCap
  parse : t.source = .stream ∨ t.result = .parse .none 0 false → execLexParse (s.fed bs) = execLexParse (t.fed bs)

/-- An iteration that goes on commutes with the feed, and one that ends the command ends it with no fragment. -/
theorem State.Resumes.iterate {u : State} (h : s.Resumes u bs) (hs : u.source = .stream) (hrp : u.rp ≠ u.inlen)
    (hi : iterate u = .next t) : s.Resumes t bs := by
  obtain ⟨ht, hft⟩ := h.inv.kept_iterate hi
  have he : perform u.consume _ = t := Host.Outcome.next.inj ((h.inv.iterate_eq hrp).symm.trans hi)
  refine ⟨ht, hft h.frame, ?_, fun hgo => ?_⟩
  · have hcfg : t.cfg = u.cfg := he ▸ (perform_same u.consume _).1.cfg
    have hlen : t.inlen ≤ u.inlen := he ▸ perform_inlen_le u.consume _
    rw [hcfg]
    exact (Nat.add_le_add_right hlen _).trans h.fits
  · have hsrc : t.source = .stream := hgo.elim id fun hres => by
      refine Source.eq_stream fun hh => ?_
      subst he
      exact perform_result_of_ends (s := u.consume) hs hh hres
    have hlt : u.rp < u.inlen := h.inv.rp_lt hrp
    have hrp' : (u.fed bs).rp ≠ (u.fed bs).inlen := (hlt.trans_le (Nat.le_add_right _ _)).ne
    exact (h.parse (.inl hs)).trans <|
      (h.inv.kept_fed h.fits).1.execLexParse_iterate hs hrp' (h.inv.iterate_fed h.frame hrp h.fits hi hsrc) hsrc

/-- The final test: `E_FULL` is no fragment, and the fragment result is all that the other case writes. -/
theorem State.Resumes.exhausted {u : State} (h : s.Resumes u bs) (hs : u.source = .stream) :
    s.Resumes u.exhausted bs := by
  obtain ⟨ht, hft⟩ := h.inv.kept_exhausted
  rcases u.exhausted_cases with ⟨-, he⟩ | ⟨-, he⟩ <;> rw [he] at ht hft ⊢
  · refine ⟨ht, hft h.frame, (Nat.add_le_add_right (u.raise_inlen_le .full) _).trans h.fits, fun hgo => ?_⟩
    rcases hgo with hgo | hgo <;> cases hgo
  · exact ⟨ht, hft h.frame, h.fits, fun _ => h.parse (.inl hs)⟩

/-- What every iteration and the final `Exhausted` keep, the whole first `LEX.PARSE` keeps. -/
theorem State.Inv.resumes_of_execLexParse (h : s.Inv) (f : s.FrameOk) (hb : s.inlen + bs.length ≤ s.cfg.inCap)
    (ht : execLexParse s = .next t) : s.Resumes t bs := by
  obtain ⟨hstream, hframe⟩ := h.kept_host s.result s.port .stream
  exact parseLoop_induct (P := (s.Resumes · bs)) (fun _ _ hu hs hrp hi => hu.iterate hs hrp hi)
    (fun _ hu hs _ => hu.exhausted hs) rfl ⟨hstream, hframe f, hb, fun _ => rfl⟩ ht

end

/-- Settles O8: by induction over the loop of the first `LEX.PARSE`, whose iterations all commute with the feed. -/
theorem resumeAfterFragment : Obligations.ResumeAfterFragment := by
  intro s t u v bytes h f hb hparse hres hu hv
  have hr := h.resumes_of_execLexParse f hb hparse
  cases (execLexFeed_fits hr.fits).symm.trans hu
  cases (execLexFeed_fits hb).symm.trans hv
  exact (hr.parse (.inr hres)).symm

end Sys2Proof.Machine
end

section
/-! PROOFS. The decoder and the encoder: what each operand reads back as, and with the operands every instruction of the
four formats; the codes outside the command map. -/

namespace Sys2Proof.Machine

section
variable {rest : List Byte}

/-! ## The operands -/

theorem readSeq_encodeSeq (bs : List Byte) : readSeq (encodeSeq bs ++ rest) = .ok (bs, rest) := by
  induction bs with
  | nil =>
    rw [encodeSeq, List.singleton_append, readSeq.eq_def]
    rfl
  | cons b bs ih => simp [encodeSeq, readSeq, ih]

/-- A natural below 2^32 is the sum of its four bytes (`30_encoding.md` R91). -/
theorem readNat_encodeNat {n : Nat} (h : natOperandOk n = true) : readNat (encodeNat n ++ rest) = .ok (n, rest) := by
  have hn : n < 4294967296 := by simpa [natOperandOk] using h
  simp only [encodeNat, List.cons_append, List.nil_append, readNat, BitVec.toNat_ofNat]
  congr 2
  omega

theorem readFlag_encodeFlag (b : Bool) : readFlag (encodeFlag b ++ rest) = .ok (b, rest) := by
  cases b <;> rfl

theorem readSrc_encodeSrc {src : Src} (h : src.wf = true) : readSrc (encodeSrc src ++ rest) = .ok (src, rest) := by
  cases src with
  | imm bs => simp [encodeSrc, readSrc, readSeq_encodeSeq]
  | out off n =>
    obtain ⟨hoff, hn⟩ := Bool.and_eq_true_iff.1 h
    simp [encodeSrc, readSrc, readNat_encodeNat hoff, readNat_encodeNat hn]

/-! ## The operand lists of the commands (`30_encoding.md` R92) -/

theorem readBytesForm_encode (k : List Byte → Instr) (bs : List Byte) :
    readBytesForm k (encodeSeq bs ++ rest) = .ok (k bs, rest) := by
  simp [readBytesForm, readSeq_encodeSeq]

theorem readSrcForm_encode (k : Src → Instr) {src : Src} (h : src.wf = true) :
    readSrcForm k (encodeSrc src ++ rest) = .ok (k src, rest) := by
  simp [readSrcForm, readSrc_encodeSrc h]

theorem readOffForm_encode (k : Src → Nat → Instr) {src : Src} {off : Nat} (h : (src.wf && natOperandOk off) = true) :
    readOffForm k (encodeSrc src ++ encodeNat off ++ rest) = .ok (k src off, rest) := by
  obtain ⟨hsrc, hoff⟩ := Bool.and_eq_true_iff.1 h
  simp [readOffForm, List.append_assoc, readSrc_encodeSrc hsrc, readNat_encodeNat hoff]

theorem readFieldForm_encode (k : Src → Nat → Nat → Bool → Instr) {src : Src} {start width : Nat} (le : Bool)
    (h : (src.wf && natOperandOk start && natOperandOk width) = true) :
    readFieldForm k (encodeSrc src ++ encodeNat start ++ encodeNat width ++ encodeFlag le ++ rest) =
      .ok (k src start width le, rest) := by
  obtain ⟨hs, hwidth⟩ := Bool.and_eq_true_iff.1 h
  obtain ⟨hsrc, hstart⟩ := Bool.and_eq_true_iff.1 hs
  simp [readFieldForm, List.append_assoc, readSrc_encodeSrc hsrc, readNat_encodeNat hstart,
    readNat_encodeNat hwidth, readFlag_encodeFlag]

/-! ## The stream formats -/

/-- A byte outside the ground dispatch map (`30_encoding.md` R95). -/
theorem decodeGb_other {c : Byte} (hc : c ∉ groundLeaders) : decodeGb c = .gbOther c := by
  simp only [groundLeaders, List.mem_cons, List.not_mem_nil, or_false, not_or] at hc
  simp only [decodeGb, hc, if_false]

/-- A byte outside the talker dispatch map (`30_encoding.md` R96). -/
theorem decodeTk_other {c : Byte} (hc : c ∉ talkerBytes) : decodeTk c = .tkOther c := by
  simp only [talkerBytes, List.mem_cons, List.not_mem_nil, or_false, not_or] at hc
  simp only [decodeTk, hc, if_false]

/-- A state's row (`10_state.md` R35): the state is found again by the 7 bits of its code. -/
theorem decode_encodeState {q : LexState} {c : Byte} {i : Instr} (hq : q.isBranch = false)
    (hi : stateRow q c = some i) : decode .st (encodeState q c ++ rest) = .ok (i, rest) := by
  have hcode : (q.code.setWidth 8).setWidth 7 = q.code := by simp
  simp only [encodeState, List.cons_append, List.nil_append, decode, hcode, LexState.ofCode?_code hq, hi]

end

/-! ## Every instruction -/

/-- Settles O56: by the instruction's operand list, or its place in the map of its format. -/
theorem decodeEncode : Obligations.DecodeEncode := by
  intro i rest h
  cases i with
  | lexInit | lexParse => rfl
  | lexFeed bytes => exact readBytesForm_encode _ bytes
  | chkXor8 | chkCs8 | chkFletch8 | chkSum32 | chkXor32 | chkCrc24q => exact readSrcForm_encode _ h
  | bfxUbits src start width le | bfxSbits src start width le => exact readFieldForm_encode _ le h
  | bfxGetbeu16 | bfxGetbeu32 | bfxGetbeu64 | bfxGetbes16 | bfxGetbes32 | bfxGetbes64 | bfxGetbef32 | bfxGetbed64
  | bfxGetleu16 | bfxGetleu32 | bfxGetleu64 | bfxGetles16 | bfxGetles32 | bfxGetles64 | bfxGetlef32 | bfxGetled64 =>
    exact readOffForm_encode _ h
  | gbComment | gbNmea | gbAis | gbJson | gbUbx | gbRtcm3 | gbCasic | gbAllystar | gbSuperstar2 | gbNavcom | gbDle
  | gbZodiac | gbSirf | gbGreis | gbItalk | gbGeostar | gbAt => rfl
  | gbOther c =>
    have hc : c ∉ groundLeaders := by simpa [Instr.wf] using h
    exact congrArg (fun i => Except.ok (i, rest)) (decodeGb_other hc)
  | tkG | tkP | tkA | tkB | tkH | tkI | tkQ | tkS | tkT | tkW | tkY => rfl
  | tkOther c =>
    have hc : c ∉ talkerBytes := by simpa [Instr.wf] using h
    exact congrArg (fun i => Except.ok (i, rest)) (decodeTk_other hc)
  | _ c => exact decode_encodeState rfl rfl

/-- Settles O57: each word is decoded by evaluation. -/
theorem wordsDecode : Obligations.WordsDecode := by
  refine ⟨rfl, rfl, rfl, rfl, rfl, rfl, rfl, rfl, rfl, rfl, rfl, rfl, ?_, ?_, ?_⟩
  · exact decode_encodeState (q := .ubxPayload) rfl rfl
  · exact decode_encodeState (q := .rtcm3Recognized) rfl rfl
  · have hcode : LexState.ofCode? ((0x56 : Byte).setWidth 7) = none := LexState.ofCode?_eq_none (by decide)
    simp only [decode, hcode]

/-! ## The codes outside the command map -/

/-- The 27 command codes (`30_encoding.md` R92). -/
def commandCodes : List Byte :=
  [0x00, 0x01, 0x02, 0x10, 0x11, 0x12, 0x13, 0x14, 0x15, 0x20, 0x21, 0x30, 0x31, 0x32, 0x33, 0x34, 0x35, 0x36, 0x37,
    0x38, 0x39, 0x3A, 0x3B, 0x3C, 0x3D, 0x3E, 0x3F]

theorem decodeCmd_illegal {op : Byte} (h : op ∉ commandCodes) (rest : List Byte) :
    decodeCmd op rest = .error .illegalCommand := by
  simp only [commandCodes, List.mem_cons, List.not_mem_nil, or_false, not_or] at h
  simp only [decodeCmd, h, if_false]

/-- The codes `30_encoding.md` R93 calls illegal are none of the 27. -/
theorem not_mem_commandCodes : ∀ op : Byte,
    (0x03 ≤ op ∧ op ≤ 0x0F) ∨ (0x16 ≤ op ∧ op ≤ 0x1F) ∨ (0x22 ≤ op ∧ op ≤ 0x2F) ∨ 0x40 ≤ op → op ∉ commandCodes := by
  decide

/-- The host's next packet, when the decoder rejects it. -/
theorem step_host_reject {s : State} {p : List Byte} {ps : List (List Byte)} {e : DecodeError}
    (hs : s.source = .host) (hp : s.port = p :: ps) (hd : decode .cmd p = .error e) :
    step s = rejectCommand e { s with port := ps } := by
  simp [step, hs, hp, hd]

/-- Settles O60: the decoder rejects the code, and the answer to it is `ILLEGAL` alone. -/
theorem illegalCommands : Obligations.IllegalCommands := by
  intro s op operands ps hs hp hop
  rw [step_host_reject hs hp (decodeCmd_illegal (not_mem_commandCodes op hop) operands)]
  rfl

/-! ## The two readings of a stream byte -/

/-- A stream byte has a row by its format exactly when it has one by its state. -/
theorem decodeStream_isSome (q : LexState) (c : Byte) : (decodeStream q c).isSome = (stateRow q c).isSome := by
  cases q <;> rfl

theorem stateRow_isSome (q : LexState) (c : Byte) : (stateRow q c).isSome = !q.isBranch := by
  cases q <;> rfl

theorem LexState.isBranch_iff (q : LexState) : (∃ ch k, q = .branch ch k) ↔ q.isBranch = true := by
  cases q <;> simp [LexState.isBranch]

/-- Settles O26: both rows of a byte are the iteration of the state's rule. -/
theorem streamReadingsAgree : Obligations.StreamReadingsAgree := by
  intro q c s
  have hsome := decodeStream_isSome q c
  have hrow := stateRow_isSome q c
  refine ⟨?_, fun hq => ?_, ?_⟩
  · cases hd : decodeStream q c with
    | none =>
      rw [hd, Option.isSome_none, eq_comm, Option.isSome_eq_false_iff, Option.isNone_iff_eq_none] at hsome
      rw [hsome]
    | some i =>
      rw [hd, Option.isSome_some, eq_comm, Option.isSome_iff_exists] at hsome
      obtain ⟨j, hj⟩ := hsome
      rw [hj, Option.map_some, Option.map_some, exec_decodeStream hd, exec_stateRow hj]
  · rw [hq, Bool.not_false, Option.isSome_iff_exists] at hrow
    obtain ⟨j, hj⟩ := hrow
    rw [hj, Option.map_some, exec_stateRow hj, iterateIn_eq]
  · rw [LexState.isBranch_iff, ← Option.isNone_iff_eq_none, ← Option.not_isSome, hsome, hrow, Bool.not_not]

/-! ## The operand `src` -/

/-- Settles O42: an `OUT` operand resolves to the range it names if the packet holds it. -/
theorem sourceOperands : Obligations.SourceOperands := by
  intro s
  refine ⟨fun _ => rfl, fun off n h => ⟨s.outRange off n, if_pos h, s.outRange_length off n, fun k hk => ?_⟩,
    fun off n h => if_neg (Nat.not_le.2 h)⟩
  rw [List.getD_eq_getElem _ _ (by rwa [State.outRange_length])]
  simp [State.outRange]

/-! ## The ground bytes no chain takes -/

/-- With RTCM2 off, a byte no enabled leader claims is dropped (`41_text_chains.md` R172). -/
theorem iteration_dropped {s : State} {rule : State → Trans} {c : Byte} (h : s.Ready)
    (h17 : s.cfg.chainEn.getLsbD 17 = false) (hr : rule s.consume = nextOtherByte c s.consume) :
    iteration rule s = .next (s.afterDrop .groundState) := by
  rw [iteration_otherByte h hr, if_neg (Bool.eq_false_iff.1 h17)]

/-- With RTCM2 off, the leader of a chain that is off is dropped, by either row (`41_text_chains.md` R172). -/
theorem exec_leader_dropped {s : State} {i : Instr} {c : Byte} (h : s.Ready) (h17 : s.cfg.chainEn.getLsbD 17 = false)
    (hi : decodeGb c = i) (hr : nextGroundState c s.consume = nextOtherByte c s.consume) :
    exec i s = .next (s.afterDrop .groundState) ∧ exec (.stGroundState c) s = .next (s.afterDrop .groundState) := by
  obtain ⟨h1, h2⟩ := exec_groundRows (s := s) hi
  have hd := iteration_dropped (rule := nextGroundState c) h h17 hr
  exact ⟨h1.trans hd, h2.trans hd⟩

/-- Settles O24: the 17 leaders' rows with their bit clear are read off the dispatch map. -/
theorem groundDropsOtherBytes : Obligations.GroundDropsOtherBytes := by
  intro s h h17
  refine ⟨fun c => iteration_dropped h h17 rfl, fun c hc => ?_, fun p hp hb => ?_⟩
  · exact iteration_dropped (rule := nextGroundState c) h h17 (nextGroundState_other hc _)
  · have hn : ¬s.cfg.chainEn.getLsbD p.2.2 = true := Bool.eq_false_iff.1 hb
    clear hb
    simp only [List.mem_cons, List.not_mem_nil, or_false] at hp
    rcases hp with rfl | rfl | rfl | rfl | rfl | rfl | rfl | rfl | rfl | rfl | rfl | rfl | rfl | rfl | rfl | rfl | rfl <;>
      exact exec_leader_dropped h h17 rfl (if_neg hn)

end Sys2Proof.Machine
end

section
/-! PROOFS. How `LEX.PARSE` reads a frame at the head of the buffer: entering its chain, one byte after another, a payload
counted down, and the delivery of the recognised packet. -/

namespace Sys2Proof.Machine

section
variable {s t : State} {q q' pay trailer : LexState} {c : Byte} {bs u frame packet rest : List Byte} {n p p' : Nat}

/-! ## The buffered bytes -/

theorem State.inRange_getElem? (s : State) (len i : Nat) :
    (s.inRange 0 len)[i]? = if i < len then some (s.inByte i) else none := by
  by_cases h : i < len <;> simp [State.inRange, h]

/-- The first of the bytes from address `n` on. -/
theorem State.inByte_of_drop (h : (s.inRange 0 s.inlen).drop n = c :: u) :
    n < s.inlen ∧ s.inByte n = c ∧ (s.inRange 0 s.inlen).drop (n + 1) = u := by
  have hc : (s.inRange 0 s.inlen)[n]? = some c := by rw [← Nat.add_zero n, ← List.getElem?_drop, h]; rfl
  rw [State.inRange_getElem?] at hc
  have hu : (s.inRange 0 s.inlen).drop (n + 1) = u := by rw [← List.tail_drop, h]; rfl
  split at hc
  · next hn => exact ⟨hn, Option.some.inj hc, hu⟩
  · cases hc

theorem State.inRange_take (s : State) {len : Nat} (h : n ≤ len) : (s.inRange 0 len).take n = s.inRange 0 n := by
  refine List.ext_getElem? fun i => ?_
  rw [List.getElem?_take, State.inRange_getElem?, State.inRange_getElem?]
  split
  · rw [if_pos (by omega)]
  · rfl

/-- A valid byte of the input buffer is listed (`10_state.md` R23). -/
theorem State.inputOk.byteAt? (h : s.inputOk) {i : Nat} (hi : i < s.inlen) : s.inbuf.byteAt? i = some (s.inByte i) := by
  have hsome : (s.inbuf.byteAt? i).isSome = true := by rw [h.2, decide_eq_true hi]
  obtain ⟨b, hb⟩ := Option.isSome_iff_exists.1 hsome
  rw [hb, State.inByte, readByte_of_byteAt? _ _ _ _ _ hi hb]

/-- After a `Shift` (`20_memory.md` R72) the buffered bytes are those from address `n` on. -/
theorem State.shift_inRange (h : s.inputOk) (n : Nat) :
    (s.shift n).inRange 0 (s.shift n).inlen = (s.inRange 0 s.inlen).drop n := by
  refine List.ext_getElem? fun i => ?_
  rw [List.getElem?_drop, State.inRange_getElem?, State.inRange_getElem?, State.shift_inlen]
  by_cases hi : n + i < s.inlen
  · have hb : (s.shift n).inbuf.byteAt? i = some (s.inByte (n + i)) := by
      rw [State.shift_inbuf, Memory.byteAt?_window, if_pos hi, h.byteAt? hi]
    have hi' : i < s.inlen - n := by omega
    rw [if_pos hi, if_pos hi']
    exact congrArg some (readByte_of_byteAt? _ _ _ _ _ hi' hb)
  · rw [if_neg hi, if_neg (by omega)]

/-- The bytes of the output slot after an accept (`40_lexer_core.md` R143). -/
theorem State.afterAccept_outByte (s : State) (q : LexState) (ty : PacketType) {i : Nat} (hi : i ≤ n) :
    some ((s.afterAccept q ty n).outByte i) = (s.inRange 0 n ++ [0x00])[i]? := by
  have hlen : i < (s.inRange 0 n ++ [0x00]).length := by simp; omega
  have hb : (s.afterAccept q ty n).outbuf.byteAt? i = some (s.inRange 0 n ++ [0x00])[i] := by
    change ((s.outbuf.writeBytes 0 (s.inRange 0 n ++ [0x00])).window 0 (n + 1)).byteAt? i = _
    rw [Memory.byteAt?_window, if_pos (by omega), Memory.byteAt?_writeBytes, if_pos (by omega),
      ← List.getElem?_eq_getElem hlen, Nat.zero_add, Nat.sub_zero]
  rw [List.getElem?_eq_getElem hlen]
  exact congrArg some (readByte_of_byteAt? _ _ _ _ _ (Nat.lt_succ_of_le hi) hb)

theorem State.afterAccept_content (s : State) (q : LexState) (ty : PacketType) (n : Nat) :
    (s.afterAccept q ty n).outRange 0 n = s.inRange 0 n ∧ (s.afterAccept q ty n).outByte n = 0x00 := by
  constructor
  · refine List.ext_getElem? fun i => ?_
    by_cases hi : i < n
    · have hb := s.afterAccept_outByte q ty hi.le
      rw [List.getElem?_append_left (by simpa using hi)] at hb
      rw [← hb]
      simp [State.outRange, hi]
    · rw [List.getElem?_eq_none (by simpa using hi), List.getElem?_eq_none (by simpa using hi)]
  · have hb := s.afterAccept_outByte q ty (Nat.le_refl n)
    rw [List.getElem?_append_right (by simp)] at hb
    simpa using hb

/-! ## Reading byte by byte -/

/-- `s` within a `LEX.PARSE`, `n` bytes consumed since, the automaton in `q` and `pending` at `p`. -/
def State.reading (s : State) (q : LexState) (n p : Nat) : State :=
  { s with state := q, rp := n, pending := p, counter := s.counter + BitVec.ofNat 64 n, source := .stream }

/-- The counter after one byte more. -/
theorem State.counter_succ (s : State) (n : Nat) :
    s.counter + BitVec.ofNat 64 n + 1 = s.counter + BitVec.ofNat 64 (n + 1) := by
  rw [BitVec.add_assoc, BitVec.ofNat_add]
  rfl

/-- The `LEX.PARSE` from `s` goes on from `q`, with `n` bytes consumed, `p` pending, and the bytes `unread` to come. -/
structure State.ReadsAt (s : State) (q : LexState) (n p : Nat) (unread : List Byte) : Prop where
  bytes : (s.inRange 0 s.inlen).drop n = unread
  inv : (s.reading q n p).Inv
  parse : execLexParse s = execLexParse (s.reading q n p)

/-- The `LEX.PARSE` from `s` goes on from `q` with `p` pending and the bytes `unread` to come. -/
def State.Reads (s : State) (q : LexState) (p : Nat) (unread : List Byte) : Prop := ∃ n, s.ReadsAt q n p unread

/-- An iteration that does not end the command and consumes no byte or one leads from one place to the next. -/
theorem State.ReadsAt.next (h : s.ReadsAt q n p (c :: u)) {m : Nat}
    (hi : iteration (q.rule c) (s.reading q n p) = .next (s.reading q' m p')) (hb : (s.inRange 0 s.inlen).drop m = bs) :
    s.ReadsAt q' m p' bs := by
  obtain ⟨hn, hc, -⟩ := State.inByte_of_drop h.bytes
  have hit : iterate (s.reading q n p) = .next (s.reading q' m p') := by
    rw [iterate, iterateIn_eq]
    exact hc ▸ hi
  exact ⟨hb, (h.inv.kept_iterate hit).1, h.parse.trans (h.inv.execLexParse_iterate rfl hn.ne hit rfl)⟩

theorem State.ReadsAt.ready (h : s.ReadsAt q n p (c :: u)) : (s.reading q n p).Ready :=
  ⟨h.inv.stash_off, (State.inByte_of_drop h.bytes).1⟩

/-- Action `Go` (`40_lexer_core.md` R137), `pending` loaded or not. -/
theorem State.ReadsAt.go (h : s.ReadsAt q n p (c :: u))
    (hr : q.rule c (s.reading q n p).consume = (s.reading q n p).consume.load p' (.go q')) :
    s.ReadsAt q' (n + 1) p' u := by
  have hnext : (s.reading q n p).afterLoad p' q' = s.reading q' (n + 1) p' := by
    simp only [State.afterLoad, State.reading, State.counter_succ]
  obtain ⟨-, -, hu⟩ := State.inByte_of_drop h.bytes
  exact h.next (hnext ▸ iteration_load h.ready hr) hu

theorem State.Reads.go (h : s.Reads q p (c :: u))
    (hr : ∀ n, q.rule c (s.reading q n p).consume = (s.reading q n p).consume.load p' (.go q')) : s.Reads q' p' u := by
  obtain ⟨n, h⟩ := h
  exact ⟨n + 1, h.go (hr n)⟩

/-- A leader state's test that holds (`42_binary_chains.md` R230(a)). -/
theorem State.Reads.expect (h : s.Reads q p (c :: u)) {ok : Bool} (hok : ok = true)
    (hr : ∀ n, q.rule c (s.reading q n p).consume = (s.reading q n p).consume.expect ok q') : s.Reads q' p u :=
  h.go fun n => (hr n).trans (if_pos hok)

/-- A length test that holds (`40_lexer_core.md` R152). -/
theorem State.Reads.lengthTest {len ovh : Nat} (h : s.Reads q p (c :: u)) (hlen : len = p')
    (hfit : p' + ovh ≤ s.cfg.maxPacketLength)
    (hr : ∀ n, q.rule c (s.reading q n p).consume = (s.reading q n p).consume.load len
      (if (s.reading q n p).consume.overLength ovh len then .cap else .go q')) : s.Reads q' p' u := by
  subst hlen
  refine h.go fun n => (hr n).trans ?_
  rw [if_neg]
  exact Bool.eq_false_iff.1 (decide_eq_false (Nat.not_lt.2 hfit))

/-- A countdown (`40_lexer_core.md` R149) reads the payload and the first byte of the trailer. -/
theorem State.Reads.countdown {payload : List Byte} (h : s.Reads q payload.length (payload ++ c :: u))
    (hq : ∀ c v, q.rule c v = v.countdown pay trailer) (hpay : ∀ c v, pay.rule c v = v.countdown pay trailer) :
    s.Reads trailer 0 u := by
  induction payload generalizing q with
  | nil => exact h.go fun n => (hq c _).trans (if_pos rfl)
  | cons b payload ih => exact ih (h.go fun n => (hq b _).trans (if_neg (Nat.succ_ne_zero _))) hpay

/-! ## Entering a chain -/

/-- With no candidate under way the pushback to the ground state is a silent hand-over (`40_lexer_core.md` R139). -/
theorem State.ReadsAt.handOver (h : s.ReadsAt q 0 0 (c :: u)) (hd : s.jsonDepth = 0)
    (hr : q.rule c (s.reading q 0 0).consume = (s.reading q 0 0).consume.plain (.push .groundState)) :
    s.ReadsAt .groundState 0 0 (c :: u) := by
  have hnext : (s.reading q 0 0).afterPushGround = s.reading .groundState 0 0 :=
    (if_pos rfl).trans (by simp only [State.reading, hd])
  exact h.next (hnext ▸ iteration_pushGround h.ready hr) h.bytes

/-- The state each leader enters, JSON's apart, which also writes `json_depth` (`41_text_chains.md` R171). -/
def leaderStates : List (Byte × LexState) :=
  [(0x23, .commentBody), (0x24, .nmeaDollar), (0x21, .nmeaBang), (0xB5, .ubxLeader1), (0xD3, .rtcm3Leader1),
    (0xBA, .casicLeader1), (0xF1, .allyLeader1), (0x50, .geostarLeader1)]

/-- A recognised state takes its own chain's leader or hands the byte over to the ground state. -/
theorem LexState.rule_of_recognised (hq : q.isIdle = true) (h0 : q ≠ .groundState) (hg : q ≠ .greisRecognized)
    (hc : c ≠ 0x7B) (v : State) :
    q.rule c v = v.plain (.push .groundState) ∨ ∃ q', (c, q') ∈ leaderStates ∧ q.rule c v = v.plain (.go q') := by
  have expect {l : Byte} {q' : LexState} (hl : (l, q') ∈ leaderStates) (hr : q.rule c v = v.expect (c == l) q') :
      q.rule c v = v.plain (.push .groundState) ∨ ∃ q', (c, q') ∈ leaderStates ∧ q.rule c v = v.plain (.go q') := by
    by_cases he : c = l
    · subst he
      exact .inr ⟨q', hl, hr.trans (if_pos (beq_self_eq_true c))⟩
    · exact .inl (hr.trans (if_neg (by simpa using he)))
  cases q with
  | groundState => exact absurd rfl h0
  | greisRecognized => exact absurd rfl hg
  | jsonRecognized => exact .inl (if_neg hc)
  | nmeaRecognized =>
    change nextNmeaRecognized c v = _ ∨ ∃ q', _ ∧ nextNmeaRecognized c v = _
    unfold nextNmeaRecognized
    split
    · next h => exact .inr ⟨_, by simp [leaderStates, h.1], rfl⟩
    · split
      · next h => exact .inr ⟨_, by simp [leaderStates, h.1], rfl⟩
      · exact .inl rfl
  | commentRecognized => exact expect (l := 0x23) (by decide) rfl
  | ubxRecognized => exact expect (l := 0xB5) (by decide) rfl
  | allyRecognized => exact expect (l := 0xF1) (by decide) rfl
  | casicRecognized => exact expect (l := 0xBA) (by decide) rfl
  | geostarRecognized => exact expect (l := 0x50) (by decide) rfl
  | rtcm3Recognized => exact expect (l := 0xD3) (by decide) rfl
  | _ => cases hq

/-- A `LEX.PARSE` begins where the candidate does. -/
theorem State.StandsAt.readsAt (h : s.StandsAt frame rest) : s.ReadsAt s.state 0 0 (frame ++ rest) := by
  obtain ⟨hp, hd, hr⟩ := h.inv.idle h.idle
  have hself : s.reading s.state 0 0 = { s with source := .stream } := by
    simp only [State.reading, BitVec.add_zero, hp, hr]
  exact ⟨h.bytes, hself ▸ (h.inv.kept_host s.result s.port .stream).1, hself ▸ rfl⟩

/-- From any idle state but `GREIS_RECOGNIZED` the leader of an enabled chain enters the chain, at once or by way of the
ground state. -/
theorem State.StandsAt.enters {bit : Nat} (h : s.StandsAt frame rest) (hb : frame ++ rest = c :: u)
    (hen : s.cfg.chainEn.getLsbD bit = true) (hg : ∀ v, nextGroundState c v = leader v bit c q) (hc : c ≠ 0x7B)
    (hone : ∀ q', (c, q') ∈ leaderStates → q' = q) : s.Reads q 0 u := by
  obtain ⟨-, hd, -⟩ := h.inv.idle h.idle
  have hstart := hb ▸ h.readsAt
  have ground (hs : s.ReadsAt .groundState 0 0 (c :: u)) : s.Reads q 0 u :=
    ⟨1, hs.go ((hg _).trans (if_pos hen))⟩
  by_cases h0 : s.state = .groundState
  · exact ground (h0 ▸ hstart)
  · rcases LexState.rule_of_recognised h.idle h0 h.notGreis hc (s.reading s.state 0 0).consume with hr | ⟨q', hq', hr⟩
    · exact ground (hstart.handOver hd hr)
    · exact ⟨1, hone q' hq' ▸ hstart.go hr⟩

/-! ## The delivery -/

/-- The byte that completes a frame its chain accepts: `LEX.PARSE` delivers the packet (`40_lexer_core.md` R142, R143). -/
theorem State.Reads.delivers {r : Recog} {ty : PacketType} (h : s.Reads q p (c :: rest))
    (hb : s.inRange 0 s.inlen = frame ++ rest)
    (hr : ∀ n, q.rule c (s.reading q n p).consume = (s.reading q n p).consume.load p' (.recog r))
    (hv : validate s.cfg r frame = .accept ty packet.length) (hp : packet <+: frame)
    (hmax : packet.length ≤ s.cfg.maxPacketLength) :
    ∃ t, exec .lexParse s = .next t ∧ s.Delivered t r.state ty packet frame rest := by
  obtain ⟨n, h⟩ := h
  obtain ⟨hn, hc, hrest⟩ := State.inByte_of_drop h.bytes
  have hlen : n + 1 = frame.length := by
    have hall := congrArg List.length hb
    have hleft := congrArg List.length hrest
    simp only [List.length_append, List.length_drop, State.inRange_length] at hall hleft
    omega
  have hcand : (s.reading q n p).nextCandidate = frame := calc
    s.inRange 0 (n + 1) = (s.inRange 0 s.inlen).take (n + 1) := (s.inRange_take hn).symm
    _ = frame := by rw [hb, hlen, List.take_left]
  have hpacket : s.inRange 0 packet.length = packet := by
    have hle : packet.length ≤ s.inlen := hp.length_le.trans (hlen ▸ hn)
    rw [← s.inRange_take hle, hb]
    exact (List.prefix_iff_eq_take.1 (hp.trans (List.prefix_append _ _))).symm
  have hit : iterate (s.reading q n p) = .next ((s.reading q n p).afterAccept r.state ty packet.length) := by
    obtain ⟨-, -, hout, -⟩ := h.inv.cfg
    have hfits : ¬(s.cfg.maxPacketLength < packet.length ∨ s.cfg.outCap - 1 < packet.length) := by
      change s.cfg.maxPacketLength + 1 ≤ s.cfg.outCap at hout
      omega
    have hacc := iteration_accept h.ready (hr n) (hcand ▸ hv)
    rw [iterate, iterateIn_eq]
    exact hc ▸ hacc.trans (congrArg _ (if_neg hfits))
  have hparse : execLexParse s = .next ((s.reading q n p).afterAccept r.state ty packet.length) := by
    have hpos : 0 < (s.reading q n p).work := State.work_pos hn
    obtain ⟨k, hk⟩ : ∃ k, (s.reading q n p).work = k + 1 := ⟨_, (Nat.succ_pred_eq_of_pos hpos).symm⟩
    rw [h.parse, h.inv.execLexParse_eq rfl hk.le, parseLoop_step k hn.ne hit]
    rfl
  obtain ⟨hcontent, hnul⟩ := (s.reading q n p).afterAccept_content r.state ty packet.length
  refine ⟨_, hparse, rfl, rfl, ⟨rfl, rfl⟩, ⟨hcontent.trans hpacket, hnul⟩, ⟨?_, rfl⟩, rfl, ?_, rfl, rfl, rfl, rfl⟩
  · exact (State.shift_inRange (s := s) h.inv.input (n + 1)).trans hrest
  · rw [← hlen]
    exact s.counter_succ n

end

end Sys2Proof.Machine
end

section
/-! PROOFS. The frames of the declared-length chains: what each validation pass makes of its frame, and the delivery. -/

namespace Sys2Proof.Machine

section
variable {s : State} {payload rest u : List Byte} {len : Nat}

/-! ## The lengths -/

/-- A 16-bit length is read back from its two bytes (`30_encoding.md` R107). -/
theorem le16Length_ofNat (h : len < 65536) :
    le16Length (BitVec.ofNat 8 len).toNat (BitVec.ofNat 8 (len / 256)) = len := by
  simp only [le16Length, BitVec.toNat_ofNat]
  omega

/-- A candidate is cut before its trailer of `k` bytes. -/
theorem cut_trailer {head trailer : List Byte} {k : Nat} (hk : trailer.length = k) :
    (head ++ trailer).take ((head ++ trailer).length - k) = head ∧
      (head ++ trailer).drop ((head ++ trailer).length - k) = trailer := by
  simp [← hk]

/-! ## UBX and ALLYSTAR -/

/-- The span of the Fletcher check of a frame (`30_encoding.md` R101, R102). -/
def fletcherSpan (cls id : Byte) (payload : List Byte) : List Byte :=
  cls :: id :: BitVec.ofNat 8 payload.length :: BitVec.ofNat 8 (payload.length / 256) :: payload

theorem fletcherFrame_eq (l1 l2 cls id : Byte) (payload : List Byte) :
    fletcherFrame l1 l2 cls id payload = l1 :: l2 :: fletcherSpan cls id payload ++
      [(fletch8 (fletcherSpan cls id payload)).1, (fletch8 (fletcherSpan cls id payload)).2] := rfl

theorem fletcherFrame_length (l1 l2 cls id : Byte) (payload : List Byte) :
    (fletcherFrame l1 l2 cls id payload).length = payload.length + 8 := by
  simp [fletcherFrame_eq, fletcherSpan]

/-- The two bytes after the span are its accumulators. -/
theorem fletchMatches_fletcherFrame (l1 l2 cls id : Byte) (payload : List Byte) :
    fletchMatches (fletcherFrame l1 l2 cls id payload) = true := by
  obtain ⟨hspan, htrailer⟩ := cut_trailer (k := 2) (head := l1 :: l2 :: fletcherSpan cls id payload)
    (trailer := [(fletch8 (fletcherSpan cls id payload)).1, (fletch8 (fletcherSpan cls id payload)).2]) rfl
  rw [fletchMatches, fletcherFrame_eq, hspan, htrailer]
  exact beq_self_eq_true _

/-- The UBX chain (`42_binary_chains.md` R231 to R237) reads a frame up to its last byte. -/
theorem State.Reads.ubx {cls id a : Byte} (h16 : payload.length < 65536)
    (hmax : payload.length + 8 ≤ s.cfg.maxPacketLength)
    (h : s.Reads .ubxLeader1 0 (0x62 :: fletcherSpan cls id payload ++ a :: u)) : s.Reads .ubxChecksumA 0 u :=
  have hlength1 := (((h.expect rfl fun _ => rfl).go fun _ => rfl).go fun _ => rfl).go fun _ => rfl
  have hlength2 := hlength1.lengthTest (le16Length_ofNat h16) hmax fun _ => rfl
  hlength2.countdown (fun _ _ => rfl) fun _ _ => rfl

/-- The ALLYSTAR chain (`42_binary_chains.md` R241 to R247) reads a frame up to its last byte. -/
theorem State.Reads.allystar {cls id a : Byte} (h16 : payload.length < 65536)
    (hmax : payload.length + 8 ≤ s.cfg.maxPacketLength)
    (h : s.Reads .allyLeader1 0 (0xD9 :: fletcherSpan cls id payload ++ a :: u)) : s.Reads .allyChecksumA 0 u :=
  have hlength1 := (((h.expect rfl fun _ => rfl).go fun _ => rfl).go fun _ => rfl).go fun _ => rfl
  have hlength2 := hlength1.lengthTest (le16Length_ofNat h16) hmax fun _ => rfl
  hlength2.countdown (fun _ _ => rfl) fun _ _ => rfl

end

/-- Settles O11: each chain is entered, reads the frame up to its last byte, and delivers it on that byte. -/
theorem fletcherFramesDelivered : Obligations.FletcherFramesDelivered := by
  intro s cls id payload rest h16 hmax
  have hfits (l1 l2 : Byte) : (fletcherFrame l1 l2 cls id payload).length ≤ s.cfg.maxPacketLength :=
    fletcherFrame_length l1 l2 cls id payload ▸ hmax
  refine ⟨fun hen h => ?_, fun hen h => ?_⟩
  · have hlast := (h.enters (List.append_assoc ..) hen (fun _ => rfl) (by decide) (by simp [leaderStates])).ubx h16 hmax
    exact hlast.delivers (r := .ubx) h.bytes (fun _ => rfl) (if_pos (fletchMatches_fletcherFrame ..))
      (List.prefix_refl _) (hfits _ _)
  · have hlast := (h.enters (List.append_assoc ..) hen (fun _ => rfl) (by decide)
      (by simp [leaderStates])).allystar h16 hmax
    exact hlast.delivers (r := .allystar) h.bytes (fun _ => rfl) (if_pos (fletchMatches_fletcherFrame ..))
      (List.prefix_refl _) (hfits _ _)

end Sys2Proof.Machine
end

section
/-! PROOFS. The frames of CASIC and GEOSTAR, whose checksums are of 32-bit words. -/

namespace Sys2Proof.Machine

section
variable {s : State} {payload rest u : List Byte}

/-! ## The word-oriented checksums -/

/-- A sequence of whole words is cut into words independently of what follows (`20_memory.md` R67). -/
theorem le32Words_append : ∀ {v : List Byte} {ws : List (BitVec 32)} (w : List Byte), le32Words v = some ws →
    le32Words (v ++ w) = (le32Words w).map (ws ++ ·)
  | [], ws, w, h => by
    cases h
    simp
  | [_], _, _, h | [_, _], _, _, h | [_, _, _], _, _, h => by cases h
  | b0 :: b1 :: b2 :: b3 :: v, ws, w, h => by
    obtain ⟨ws', hv, rfl⟩ := Option.map_eq_some_iff.1 h
    rw [List.cons_append, List.cons_append, List.cons_append, List.cons_append, le32Words, le32Words_append w hv,
      Option.map_map]
    rfl

/-- The four bytes of a word are one word again. -/
theorem le32Words_le32Bytes (k : BitVec 32) : le32Words (le32Bytes k) = some [k] := by
  have hk : le32 (k.setWidth 8) ((k >>> 8).setWidth 8) ((k >>> 16).setWidth 8) ((k >>> 24).setWidth 8) = k := by
    refine BitVec.eq_of_getLsbD_eq fun i hi => ?_
    -- bit `i` of the word is bit `i % 8` of the byte it falls in
    change BitVec.getLsbD (w := 8 + 8 + 8 + 8) (_ ++ _ ++ _ ++ _) i = _
    simp only [BitVec.getLsbD_append, BitVec.getLsbD_setWidth, BitVec.getLsbD_ushiftRight]
    grind
  rw [le32Bytes, le32Words, hk]
  rfl

/-- A sequence of whole words with its `XOR32` after it has the `XOR32` zero (`42_binary_chains.md` R276). -/
theorem xor32_append_self {v : List Byte} (h : v.length % 4 = 0) :
    xor32 (v ++ le32Bytes ((xor32 v).getD 0)) = some 0 := by
  obtain ⟨ws, hws⟩ : ∃ ws, le32Words v = some ws := by
    rw [← Option.isSome_iff_exists, le32Words_isSome, decide_eq_true h]
  have hx : xor32 v = some (ws.foldl (fun s w => s ^^^ w) 0) := by rw [xor32, hws]; rfl
  rw [hx, xor32, le32Words_append _ hws, Option.getD_some, le32Words_le32Bytes]
  simp

/-! ## CASIC -/

/-- The span of the CASIC checksum of a frame (`30_encoding.md` R103). -/
def casicSpan (cls id : Byte) (payload : List Byte) : List Byte :=
  BitVec.ofNat 8 payload.length :: BitVec.ofNat 8 (payload.length / 256) :: cls :: id :: payload

theorem casicFrame_eq (cls id : Byte) (payload : List Byte) :
    casicFrame cls id payload =
      0xBA :: 0xCE :: casicSpan cls id payload ++ le32Bytes ((sum32 (casicSpan cls id payload)).getD 0) := rfl

theorem casicFrame_length (cls id : Byte) (payload : List Byte) :
    (casicFrame cls id payload).length = payload.length + 10 := by
  simp [casicFrame_eq, casicSpan, le32Bytes]

/-- The trailer is the sum of the span's words (`42_binary_chains.md` R262). -/
theorem validateCasic_casicFrame (cls id : Byte) (h : payload.length % 4 = 0) :
    validateCasic (casicFrame cls id payload) = .accept .casic (casicFrame cls id payload).length := by
  have hspan : (casicSpan cls id payload).length % 4 = 0 := by
    simp only [casicSpan, List.length_cons]
    omega
  obtain ⟨k, hk⟩ := Option.isSome_iff_exists.1 (sum32_isSome hspan)
  obtain ⟨hhead, htrailer⟩ := cut_trailer (k := 4) (head := 0xBA :: 0xCE :: casicSpan cls id payload)
    (trailer := le32Bytes k) rfl
  rw [validateCasic, casicFrame_eq, hk, Option.getD_some, hhead, List.drop_succ_cons, List.drop_succ_cons,
    List.drop_zero, hk]
  exact if_pos htrailer

/-- `CASIC_LENGTH_1` (`42_binary_chains.md` R253) when both length tests hold. -/
theorem nextCasicLength1_fits {v : State} {c : Byte} {len : Nat} (hlen : le16Length v.pending c = len)
    (h4 : len % 4 = 0) (hfit : len + 10 ≤ v.cfg.maxPacketLength) :
    nextCasicLength1 c v = v.load len (.go .casicLength2) := by
  subst hlen
  have hcap : v.overLength 10 (le16Length v.pending c) = false := decide_eq_false (Nat.not_lt.2 hfit)
  simp [nextCasicLength1, hcap, h4]

/-- The CASIC chain (`42_binary_chains.md` R251 to R259) reads a frame up to its last byte. -/
theorem State.Reads.casic {cls id a b c : Byte} (h4 : payload.length % 4 = 0) (h16 : payload.length < 65536)
    (hmax : payload.length + 10 ≤ s.cfg.maxPacketLength)
    (h : s.Reads .casicLeader1 0 (0xCE :: casicSpan cls id payload ++ a :: b :: c :: u)) :
    s.Reads .casicChecksum3 0 u :=
  have hlength1 := (h.expect rfl fun _ => rfl).go fun _ => rfl
  have hlength2 := hlength1.go fun _ => nextCasicLength1_fits (le16Length_ofNat h16) h4 hmax
  have hpayload := (hlength2.go fun _ => rfl).go fun _ => rfl
  have htrailer := hpayload.countdown (fun _ _ => rfl) fun _ _ => rfl
  (htrailer.go fun _ => rfl).go fun _ => rfl

/-! ## GEOSTAR -/

/-- A GEOSTAR frame without its checksum (`30_encoding.md` R104). -/
def geostarHead (idLow idHigh : Byte) (payload : List Byte) : List Byte :=
  0x50 :: 0x53 :: 0x47 :: 0x47 :: idLow :: idHigh :: BitVec.ofNat 8 (payload.length / 4) ::
    BitVec.ofNat 8 (payload.length / 4 / 256) :: payload

theorem geostarFrame_eq (x y : Byte) (payload : List Byte) :
    geostarFrame x y payload = geostarHead x y payload ++ le32Bytes ((xor32 (geostarHead x y payload)).getD 0) := rfl

theorem geostarFrame_length (x y : Byte) (payload : List Byte) :
    (geostarFrame x y payload).length = payload.length + 12 := by
  simp [geostarFrame_eq, geostarHead, le32Bytes]

theorem validateGeostar_geostarFrame (x y : Byte) (h : payload.length % 4 = 0) :
    validateGeostar (geostarFrame x y payload) = .accept .geostar (geostarFrame x y payload).length := by
  refine if_pos (xor32_append_self ?_)
  simp only [List.length_append, List.length_cons, List.length_nil]
  omega

/-- The GEOSTAR chain (`42_binary_chains.md` R263 to R273) reads a frame up to its last byte. -/
theorem State.Reads.geostar {x y a b c : Byte} (h4 : payload.length % 4 = 0) (h16 : payload.length / 4 < 65536)
    (hmax : payload.length + 12 ≤ s.cfg.maxPacketLength)
    (h : s.Reads .geostarLeader1 0 ((geostarHead x y payload).tail ++ a :: b :: c :: u)) :
    s.Reads .geostarChecksum3 0 u :=
  have hleader := ((h.expect rfl fun _ => rfl).expect rfl fun _ => rfl).expect rfl fun _ => rfl
  have hlength1 := ((hleader.go fun _ => rfl).go fun _ => rfl).go fun _ => rfl
  have hbytes : 4 * le16Length (BitVec.ofNat 8 (payload.length / 4)).toNat (BitVec.ofNat 8 (payload.length / 4 / 256)) =
      payload.length := by
    rw [le16Length_ofNat h16]
    omega
  have hlength2 := hlength1.lengthTest hbytes hmax fun _ => rfl
  have htrailer := hlength2.countdown (fun _ _ => rfl) fun _ _ => rfl
  (htrailer.go fun _ => rfl).go fun _ => rfl

end

/-- Settles O12: each chain is entered, reads the frame up to its last byte, and delivers it on that byte. -/
theorem wordFramesDelivered : Obligations.WordFramesDelivered := by
  intro s x y payload rest h4
  refine ⟨fun hen h16 hmax h => ?_, fun hen h16 hmax h => ?_⟩
  · have hlast := (h.enters (List.append_assoc ..) hen (fun _ => rfl) (by decide)
      (by simp [leaderStates])).casic h4 h16 hmax
    exact hlast.delivers (r := .casic) h.bytes (fun _ => rfl) (validateCasic_casicFrame x y h4)
      (List.prefix_refl _) (casicFrame_length x y payload ▸ hmax)
  · have hlast := (h.enters (List.append_assoc ..) hen (fun _ => rfl) (by decide)
      (by simp [leaderStates])).geostar h4 h16 hmax
    exact hlast.delivers (r := .geostar) h.bytes (fun _ => rfl) (validateGeostar_geostarFrame x y h4)
      (List.prefix_refl _) (geostarFrame_length x y payload ▸ hmax)

end Sys2Proof.Machine
end

section
/-! PROOFS. The frames of RTCM3 and of the opening GREIS message. -/

namespace Sys2Proof.Machine

section
variable {s : State} {q : LexState} {payload rest u : List Byte}

/-! ## RTCM3 -/

/-- An RTCM3 frame without its CRC (`30_encoding.md` R106). -/
def rtcm3Head (payload : List Byte) : List Byte :=
  0xD3 :: BitVec.ofNat 8 (payload.length / 256) :: BitVec.ofNat 8 payload.length :: payload

theorem rtcm3Frame_eq (payload : List Byte) :
    rtcm3Frame payload = rtcm3Head payload ++ be24 (crc24q (rtcm3Head payload)) := rfl

theorem rtcm3Frame_length (payload : List Byte) : (rtcm3Frame payload).length = payload.length + 6 := by
  simp [rtcm3Frame_eq, rtcm3Head, be24]

/-- The trailer is the CRC of what stands before it (`42_binary_chains.md` R292). -/
theorem validateRtcm3_rtcm3Frame (payload : List Byte) :
    validateRtcm3 (rtcm3Frame payload) = .accept .rtcm3 (rtcm3Frame payload).length := by
  obtain ⟨hhead, htrailer⟩ := cut_trailer (k := 3) (head := rtcm3Head payload)
    (trailer := be24 (crc24q (rtcm3Head payload))) rfl
  exact if_pos (htrailer.trans (by rw [← rtcm3Frame_eq] at hhead; rw [hhead]))

/-- The two high bits of the length below six zero bits (`42_binary_chains.md` R285). -/
theorem nextRtcm3Leader1_high {k : Nat} (hk : k < 4) (v : State) :
    nextRtcm3Leader1 (BitVec.ofNat 8 k) v = v.load (256 * k) (.go .rtcm3Length1) := by
  obtain ⟨hzero, hbits⟩ := (by decide : ∀ k < 4, BitVec.ofNat 8 k &&& 0xFC = (0 : Byte) ∧
    (BitVec.ofNat 8 k &&& 0x03 : Byte).toNat = k) k hk
  rw [nextRtcm3Leader1, if_neg (not_not.2 hzero), hbits]

/-- The RTCM3 chain (`42_binary_chains.md` R285 to R289) reads a frame up to its last byte. -/
theorem State.Reads.rtcm3 {a b : Byte} (h10 : payload.length < 1024)
    (hmax : payload.length + 6 ≤ s.cfg.maxPacketLength)
    (h : s.Reads .rtcm3Leader1 0 ((rtcm3Head payload).tail ++ a :: b :: u)) : s.Reads .rtcm3Crc2 0 u :=
  have hhigh : payload.length / 256 < 4 := by omega
  have hlength1 := h.go fun _ => nextRtcm3Leader1_high hhigh _
  have hbytes : 256 * (payload.length / 256) + (BitVec.ofNat 8 payload.length).toNat = payload.length := by
    rw [BitVec.toNat_ofNat]
    omega
  have hlength2 := hlength1.lengthTest hbytes hmax fun _ => rfl
  (hlength2.countdown (fun _ _ => rfl) fun _ _ => rfl).go fun _ => rfl

/-! ## GREIS -/

/-- An opening GREIS frame without its checksum (`30_encoding.md` R105). -/
def greisHead (id2 : Byte) (payload : List Byte) : List Byte :=
  0x7E :: id2 :: hexChar ((payload.length + 1) / 256) :: hexChar ((payload.length + 1) / 16 % 16) ::
    hexChar ((payload.length + 1) % 16) :: payload

theorem greisFrame_eq (id2 : Byte) (payload : List Byte) :
    greisFrame id2 payload = greisHead id2 payload ++ [cs8 (greisHead id2 payload)] := rfl

theorem greisFrame_length (id2 : Byte) (payload : List Byte) : (greisFrame id2 payload).length = payload.length + 6 := by
  simp [greisFrame_eq, greisHead]

/-- A sequence with its `CS8` after it has the `CS8` zero (`42_binary_chains.md` R284). -/
theorem cs8_append_self (v : List Byte) : cs8 (v ++ [cs8 v]) = 0 := by
  have hacc : cs8Acc (v ++ [cs8 v]) = cs8 v ^^^ cs8 v := by
    simp only [cs8Acc, cs8, List.foldl_append, List.foldl_cons, List.foldl_nil]
  rw [cs8, hacc, BitVec.xor_self]
  rfl

theorem validateGreis_greisFrame (id2 : Byte) (payload : List Byte) :
    validateGreis (greisFrame id2 payload) = .accept .greis (greisFrame id2 payload).length := by
  unfold validateGreis
  split
  · rfl
  · exact if_pos (cs8_append_self (greisHead id2 payload))

/-- The digit characters are the uppercase hex digits, each of its value (`30_encoding.md` R108). -/
theorem hexChar_digit {k : Nat} (hk : k < 16) : isHexUpper (hexChar k) = true ∧ hexVal (hexChar k) = k :=
  (by decide : ∀ k < 16, isHexUpper (hexChar k) = true ∧ hexVal (hexChar k) = k) k hk

theorem nextGreisId2_digit {k : Nat} (hk : k < 16) (v : State) :
    nextGreisId2 (hexChar k) v = v.load (256 * k) (.go .greisLength1) := by
  obtain ⟨hdigit, hval⟩ := hexChar_digit hk
  rw [nextGreisId2, if_pos hdigit, hval]

theorem nextGreisLength1_digit {k : Nat} (hk : k < 16) (v : State) :
    nextGreisLength1 (hexChar k) v = v.load (v.pending + 16 * k) (.go .greisLength2) := by
  obtain ⟨hdigit, hval⟩ := hexChar_digit hk
  rw [nextGreisLength1, if_pos hdigit, hval]

/-- `GREIS_LENGTH_2` (`42_binary_chains.md` R280) on the last digit of a body's length that fits. -/
theorem nextGreisLength2_fits {v : State} {k len : Nat} (hk : k < 16) (hlen : v.pending + k = len) (hpos : 0 < len)
    (hfit : len + 5 ≤ v.cfg.maxPacketLength) :
    nextGreisLength2 (hexChar k) v = v.load len (.go .greisLength3) := by
  obtain ⟨hdigit, hval⟩ := hexChar_digit hk
  have hcap : v.overLength 5 len = false := decide_eq_false (Nat.not_lt.2 hfit)
  simp [nextGreisLength2, hdigit, hval, hlen, hcap, hpos.ne']

/-- The GREIS countdown (`42_binary_chains.md` R282) reads the body up to its last byte. -/
theorem State.Reads.greisBody {c : Byte} (h : s.Reads q (payload.length + 1) (payload ++ c :: u))
    (hq : ∀ c v, q.rule c v = greisCountdown v) :
    ∃ q', (∀ c v, q'.rule c v = greisCountdown v) ∧ s.Reads q' 1 (c :: u) := by
  induction payload generalizing q with
  | nil => exact ⟨q, hq, h⟩
  | cons b payload ih => exact ih (q := .greisPayload) (h.go fun _ => hq b _) fun _ _ => rfl

/-- The GREIS chain (`42_binary_chains.md` R277 to R282) reads an opening frame up to its last byte. -/
theorem State.Reads.greis {id2 c : Byte} (hid : isGreisId id2 = true) (h12 : payload.length < 4095)
    (hmax : payload.length + 6 ≤ s.cfg.maxPacketLength)
    (h : s.Reads .greisId1 0 ((greisHead id2 payload).tail ++ c :: u)) :
    ∃ q, (∀ c v, q.rule c v = greisCountdown v) ∧ s.Reads q 1 (c :: u) := by
  have hhigh : (payload.length + 1) / 256 < 16 := by omega
  have hlength1 := (h.expect hid fun _ => rfl).go fun _ => nextGreisId2_digit hhigh _
  have hlength2 : s.Reads .greisLength2 (256 * ((payload.length + 1) / 256) + 16 * ((payload.length + 1) / 16 % 16)) _ :=
    hlength1.go fun _ => nextGreisLength1_digit (Nat.mod_lt _ (by decide)) _
  have hbytes : 256 * ((payload.length + 1) / 256) + 16 * ((payload.length + 1) / 16 % 16) +
      (payload.length + 1) % 16 = payload.length + 1 := by omega
  have hlength3 := hlength2.go fun _ =>
    nextGreisLength2_fits (Nat.mod_lt _ (by decide)) hbytes (Nat.succ_pos _) hmax
  exact hlength3.greisBody fun _ _ => rfl

end

/-- Settles O13: as the other frames; the GREIS frame ends in whichever countdown state its body's length leads to. -/
theorem rtcm3AndGreisFramesDelivered : Obligations.Rtcm3AndGreisFramesDelivered := by
  intro s payload rest
  refine ⟨fun hen h10 hmax h => ?_, fun id2 hen hid h12 hmax h => ?_⟩
  · have hlast := (h.enters (List.append_assoc ..) hen (fun _ => rfl) (by decide)
      (by simp [leaderStates])).rtcm3 h10 hmax
    exact hlast.delivers (r := .rtcm3) h.bytes (fun _ => rfl) (validateRtcm3_rtcm3Frame payload)
      (List.prefix_refl _) (rtcm3Frame_length payload ▸ hmax)
  · obtain ⟨q, hq, hlast⟩ := (h.enters (List.append_assoc ..) hen (fun _ => rfl) (by decide)
      (by simp [leaderStates])).greis hid h12 hmax
    exact hlast.delivers (r := .greis) h.bytes (fun _ => hq _ _) (validateGreis_greisFrame id2 payload)
      (List.prefix_refl _) (greisFrame_length id2 payload ▸ hmax)

end Sys2Proof.Machine
end

section
/-! PROOFS. The NMEA sentence: its line end is stripped, its checksum is the one computed, and its bytes are read one by
one. -/

namespace Sys2Proof.Machine

section
variable {s : State} {body text eol rest u : List Byte}

/-! ## The sentence -/

theorem nmeaSentence_length (body : List Byte) : (nmeaSentence body).length = body.length + 4 := by
  simp [nmeaSentence, hexPair]

/-- A hex digit can stand in a sentence. -/
theorem isNmeaText_hexChar {k : Nat} (hk : k < 16) : isNmeaText (hexChar k) = true :=
  (by decide : ∀ k < 16, isNmeaText (hexChar k) = true) k hk

theorem hexPair_all_isNmeaText (x : Byte) : (hexPair x).all isNmeaText = true := by
  have hhigh : x.toNat / 16 < 16 := by omega
  simp [hexPair, isNmeaText_hexChar hhigh, isNmeaText_hexChar (Nat.mod_lt x.toNat (by decide : 0 < 16))]

/-- No byte of a sentence is a line end, a dollar sign or a brace (`41_text_chains.md` R184). -/
theorem isNmeaText_facts {c : Byte} (h : isNmeaText c = true) :
    isLineEnd c = false ∧ c ≠ 0x0D ∧ c ≠ 0x0A ∧ ¬(c = 0x24 ∨ c = 0x7B) ∧ isPrintable c = true := by
  revert c
  decide

/-- The trailing line end is stripped, and nothing before it (`41_text_chains.md` R187). -/
theorem strippedLength_append {v : List Byte} {c : Byte} (hc : isLineEnd c = false) (he : eol.all isLineEnd = true) :
    strippedLength (v ++ [c] ++ eol) = (v ++ [c]).length := by
  have hrev : (v ++ [c] ++ eol).reverse = eol.reverse ++ c :: v.reverse := by simp
  rw [strippedLength, hrev, List.dropWhile_append_of_pos (by simpa using he),
    List.dropWhile_cons_of_neg (Bool.eq_false_iff.1 hc)]
  simp

theorem strippedLength_nmeaSentence (body : List Byte) (he : eol.all isLineEnd = true) :
    strippedLength (nmeaSentence body ++ eol) = (nmeaSentence body).length := by
  have hlast : nmeaSentence body =
      0x24 :: body ++ [0x2A, hexChar ((xor8 body).toNat / 16)] ++ [hexChar ((xor8 body).toNat % 16)] := by
    simp [nmeaSentence, hexPair]
  obtain ⟨hc, -⟩ := isNmeaText_facts (isNmeaText_hexChar (Nat.mod_lt (xor8 body).toNat (by decide : 0 < 16)))
  rw [hlast]
  exact strippedLength_append hc he

/-- A sentence is accepted up to its two checksum digits, exempt or not (`41_text_chains.md` R187, R189). -/
theorem validateNmea_nmeaSentence (cfg : Config) (body : List Byte) (he : eol.all isLineEnd = true) :
    validateNmea cfg (nmeaSentence body ++ eol) = .accept .nmea (nmeaSentence body).length := by
  obtain ⟨hspan, hstar⟩ := cut_trailer (k := 3) (head := 0x24 :: body) (trailer := 0x2A :: hexPair (xor8 body)) rfl
  obtain ⟨-, hdigits⟩ := cut_trailer (k := 2) (head := 0x24 :: body ++ [0x2A]) (trailer := hexPair (xor8 body)) rfl
  rw [List.append_assoc] at hdigits
  change (nmeaSentence body).take ((nmeaSentence body).length - 3) = 0x24 :: body at hspan
  change (nmeaSentence body).drop ((nmeaSentence body).length - 3) = 0x2A :: hexPair (xor8 body) at hstar
  change (nmeaSentence body).drop ((nmeaSentence body).length - 2) = hexPair (xor8 body) at hdigits
  have hstar' : (nmeaSentence body)[(nmeaSentence body).length - 3]? = some 0x2A := by
    rw [← Nat.add_zero (_ - 3), ← List.getElem?_drop, hstar]
    rfl
  have hhead : (nmeaSentence body ++ eol).head? = some 0x24 := rfl
  have hlong : 4 ≤ (nmeaSentence body).length := by
    rw [nmeaSentence_length]
    omega
  simp only [validateNmea, strippedLength_nmeaSentence body he, List.take_left, hhead, hstar', hdigits, hspan, hlong,
    List.drop_succ_cons, List.drop_zero]
  split <;> simp

/-! ## Its bytes, one by one -/

/-- The first talker character of a pair picks the state that tests the second (`41_text_chains.md` R177, R178). -/
theorem nextNmeaDollar_talker {x : Byte} (hx : x ∈ Config.talkerFirsts) :
    ∃ q : LexState, (∀ v, nextNmeaDollar x v = v.plain (.go q)) ∧ ∀ y v, q.rule y v = nextNmeaLead x y v := by
  simp only [Config.talkerFirsts, List.mem_cons, List.not_mem_nil, or_false] at hx
  rcases hx with rfl | rfl | rfl | rfl | rfl | rfl | rfl | rfl | rfl | rfl <;>
    exact ⟨_, fun _ => rfl, fun _ _ => rfl⟩

/-- A byte of a sentence's text goes on with it (`41_text_chains.md` R184). -/
theorem nmeaBody_text {c : Byte} (h : isNmeaText c = true) (v : State) :
    nmeaBody c v = v.plain (.go .nmeaLeaderEnd) := by
  obtain ⟨-, hcr, hlf, hstart, hprint⟩ := isNmeaText_facts h
  rw [nmeaBody, if_neg hcr, if_neg hlf, if_neg hstart, State.expect, if_pos hprint]

theorem State.Reads.nmeaText (h : s.Reads .nmeaLeaderEnd 0 (text ++ u)) (ht : text.all isNmeaText = true) :
    s.Reads .nmeaLeaderEnd 0 u := by
  induction text with
  | nil => exact h
  | cons c text ih =>
    obtain ⟨hc, htext⟩ := Bool.and_eq_true_iff.1 ht
    exact ih (h.go fun _ => nmeaBody_text hc _) htext

/-- The NMEA chain (`41_text_chains.md` R177 to R184) reads a sentence up to its line end. -/
theorem State.Reads.nmea {x y : Byte} (h : s.Reads .nmeaDollar 0 (x :: y :: (text ++ u))) (hx : x ∈ Config.talkerFirsts)
    (hy : ∃ p ∈ s.cfg.talker2, p.1 = x ∧ y ∈ p.2) (ht : text.all isNmeaText = true) : s.Reads .nmeaLeaderEnd 0 u := by
  obtain ⟨q, hfirst, hsecond⟩ := nextNmeaDollar_talker hx
  have haccepts : talkerAccepts s.cfg x y = true := by simpa [talkerAccepts] using hy
  exact ((h.go fun _ => hfirst _).expect haccepts fun _ => hsecond y _).nmeaText ht

end

/-- Settles O14: the checksum's star and digits are bytes of the text too, and either line end ends it. -/
theorem nmeaSentenceDelivered : Obligations.NmeaSentenceDelivered := by
  intro s x y text eol rest hen hx hy ht heol hmax h
  have hbytes : nmeaSentence (x :: y :: text) ++ eol ++ rest =
      0x24 :: x :: y :: ((text ++ 0x2A :: hexPair (xor8 (x :: y :: text))) ++ (eol ++ rest)) := by
    simp [nmeaSentence]
  have htext : (text ++ 0x2A :: hexPair (xor8 (x :: y :: text))).all isNmeaText = true := by
    rw [List.all_append, List.all_cons, ht, hexPair_all_isNmeaText]
    rfl
  have hend := (h.enters hbytes hen (fun _ => rfl) (by decide) (by simp [leaderStates])).nmea hx hy htext
  have hlen : (nmeaSentence (x :: y :: text)).length ≤ s.cfg.maxPacketLength := by
    rw [nmeaSentence_length]
    exact hmax
  have hprefix := List.prefix_append (nmeaSentence (x :: y :: text)) eol
  rcases heol with rfl | rfl
  · exact hend.delivers (r := .nmea) h.bytes (fun _ => rfl) (validateNmea_nmeaSentence s.cfg _ rfl) hprefix hlen
  · have hcr := hend.go (q' := .nmeaCr) fun _ => rfl
    exact hcr.delivers (r := .nmea) h.bytes (fun _ => rfl) (validateNmea_nmeaSentence s.cfg _ rfl) hprefix hlen

end Sys2Proof.Machine
end

section
/-! PROOFS. `LEX.PARSE` as a run of single steps: how it ends (`40_lexer_core.md` R151), and that every step of the run
brings the work down until it does. -/

namespace Sys2Proof.Machine

section
variable {s t : State}

/-! ## How a `LEX.PARSE` ends -/

/-- The rows of `40_lexer_core.md` R151, the packets of at least `m` bytes: what the host finds when a `LEX.PARSE` has
ended. -/
def State.Ended (m : Nat) (t : State) : Prop :=
  (∃ r ty, t.result = .parse ty t.outlen false ∧ ty ∈ Recog.types r ∧ m ≤ t.outlen ∧ t.type = ty ∧
    t.state = r.state) ∨
  (t.result = .parse .bad 0 false ∧ t.state = .groundState) ∨
  (t.result = .parse .bad 0 true ∧ t.state = .groundState) ∨
  (t.result = .parse .none 0 false ∧ t.rp = t.inlen) ∨
  (t.result = .parse .none 0 true ∧ t.state = .groundState ∧ t.inlen = 0)

theorem State.Ended.parse_result {m : Nat} (h : t.Ended m) : ∃ tag n cap, t.result = .parse tag n cap := by
  rcases h with ⟨r, ty, hres, -⟩ | ⟨hres, -⟩ | ⟨hres, -⟩ | ⟨hres, -⟩ | ⟨hres, -⟩ <;> exact ⟨_, _, _, hres⟩

/-- The events that end the command (`60_exceptions.md` R378) end it with the tags `BAD` and `NONE`. -/
theorem State.raise_ended (m : Nat) (s : State) {e : Event} (he : e.ends ≠ none) : (s.raise e).Ended m := by
  cases e with
  | framing => exact absurd rfl he
  | badCheck => exact .inr (.inl ⟨rfl, rfl⟩)
  | oversize => exact .inr (.inr (.inl ⟨rfl, rfl⟩))
  | length | full => exact .inr (.inr (.inr (.inr ⟨rfl, rfl, rfl⟩)))

/-- The final test (`40_lexer_core.md` R135). -/
theorem State.exhausted_ended (m : Nat) (h : s.rp = s.inlen) : s.exhausted.source = .host ∧ s.exhausted.Ended m := by
  rcases s.exhausted_cases with ⟨-, he⟩ | ⟨-, he⟩ <;> rw [he]
  · exact ⟨rfl, s.raise_ended m nofun⟩
  · exact ⟨rfl, .inr (.inr (.inr (.inl ⟨rfl, h⟩)))⟩

/-- A recognition whose chain accepts no packet shorter than `m` (`40_lexer_core.md` R142 to R145). -/
theorem State.recognise_ended {m : Nat} {r : Recog}
    (hm : ∀ ty n, validate s.cfg r (s.goto r.state).candidate = .accept ty n → m ≤ n) : (s.recognise r).Ended m := by
  change ((s.goto r.state).conclude (validate s.cfg r (s.goto r.state).candidate)).Ended m
  cases hv : validate s.cfg r (s.goto r.state).candidate with
  | bad => exact (s.goto r.state).raise_ended m (e := .badCheck) nofun
  | accept ty n =>
    by_cases hc : s.cfg.maxPacketLength < n ∨ s.cfg.outCap - 1 < n
    · rw [State.conclude_over (s := s.goto r.state) hc]
      exact State.raise_ended m _ nofun
    · rw [State.conclude_within (s := s.goto r.state) hc]
      exact .inl ⟨r, ty, rfl, validate_accept_type hv, hm ty n hv, rfl, rfl⟩

/-- An action that ends the command leaves one of the rows: a capacity event or a recognition. -/
theorem perform_ended {m : Nat} {tr : Trans} (hs : s.source = .stream) (hp : (perform s tr).source = .host)
    (hm : ∀ r ty n, tr.act = .recog r → validate s.cfg r s.candidate = .accept ty n → m ≤ n) :
    (perform s tr).Ended m := by
  have goesOn {u : State} (hu : u.source = s.source) (hh : u.source = .host) : False := by
    rw [hu, hs] at hh
    cases hh
  rcases perform_cases s tr with ⟨q, -, he⟩ | ⟨q, -, he⟩ | ⟨q, -, he⟩ | ⟨-, he⟩ | ⟨r, hr, he⟩ <;> rw [he] at hp ⊢
  · exact (goesOn rfl hp).elim
  · exact (goesOn ((s.loadTrans tr).pushback_source q) hp).elim
  · exact (goesOn rfl hp).elim
  · exact State.raise_ended m _ nofun
  · exact State.recognise_ended (s := s.loadTrans tr) fun ty n => hm r ty n hr

/-- An iteration that ends the command, whatever its packet's length. -/
theorem State.Inv.iterate_ended (h : s.Inv) (hs : s.source = .stream) (hrp : s.rp ≠ s.inlen) (hi : iterate s = .next t)
    (ht : t.source = .host) : t.Ended 0 := by
  cases (h.iterate_eq hrp).symm.trans hi
  exact perform_ended (s := s.consume) hs ht fun _ _ n _ _ => Nat.zero_le n

/-! ## One step -/

/-- A step within a `LEX.PARSE` with a byte to consume is the iteration at the position (`10_state.md` R26). -/
theorem step_stream_iterate (hs : s.source = .stream) (hrp : s.rp ≠ s.inlen) : step s = iterate s := by
  rw [step_stream_rule hs hrp, iterate, iterateIn_eq]

/-- Running on after a step that answers a next state. -/
theorem run_succ_of_step (h : step s = .next t) (k : Nat) :
    Host.Core.run Sys2Proof.core (k + 1) s = Host.Core.run Sys2Proof.core k t := by
  have hstep : Sys2Proof.core.step s = .next t := h
  simp only [Host.Core.run, hstep]

/-- A `LEX.PARSE` whose next iteration ends it. -/
theorem State.Inv.execLexParse_ends (h : s.Inv) (hs : s.source = .stream) (hrp : s.rp ≠ s.inlen)
    (hi : iterate s = .next t) (ht : t.source = .host) : execLexParse s = .next t := by
  obtain ⟨k, hk⟩ : ∃ k, s.work = k + 1 := ⟨_, (Nat.succ_pred_eq_of_pos (State.work_pos (h.rp_lt hrp))).symm⟩
  rw [h.execLexParse_eq hs hk.le, parseLoop_step k hrp hi, if_pos ht]

/-- `LEX.PARSE` from the middle of a `LEX.PARSE` with nothing left to consume. -/
theorem execLexParse_exhausted (hs : s.source = .stream) (hrp : s.rp = s.inlen) :
    execLexParse s = .next s.exhausted := by
  have hself : { s with source := .stream } = s := by rw [← hs]
  rw [execLexParse, hself]
  exact parseLoop_exhausted _ hrp

/-- A step with a byte to consume is an iteration that ends the command or brings its work down. -/
theorem State.Inv.step_cases (h : s.Inv) (hs : s.source = .stream) (hrp : s.rp ≠ s.inlen) :
    ∃ u, iterate s = .next u ∧ step s = .next u ∧
      (u.source = .host ∨ (u.source = .stream ∧ u.Inv ∧ u.work < s.work)) := by
  have hi := h.iterate_eq hrp
  refine ⟨_, hi, (step_stream_iterate hs hrp).trans hi, ?_⟩
  by_cases hu : (perform s.consume (s.state.rule (s.inByte s.rp) s.consume)).source = .host
  · exact .inl hu
  · have hgoes := Source.eq_stream hu
    exact .inr ⟨hgoes, (h.kept_iterate hi).1, h.work_lt hrp hi hgoes⟩

/-- The refinement, from within a `LEX.PARSE`: the atomic command and its iterations stepped one by one agree. By
induction on the work, which each step that does not end the command brings down. -/
theorem State.Inv.execLexParse_run (h : s.Inv) (hs : s.source = .stream) :
    ∃ t k, execLexParse s = .next t ∧ k ≤ s.work + 1 ∧ Host.Core.run Sys2Proof.core k s = .next t ∧
      t.source = .host ∧ t.Ended 0 := by
  induction hw : s.work using Nat.strong_induction_on generalizing s with
  | _ w ih =>
    subst hw
    by_cases hrp : s.rp = s.inlen
    · obtain ⟨hsrc, hend⟩ := State.exhausted_ended 0 hrp
      exact ⟨_, 1, execLexParse_exhausted hs hrp, Nat.le_add_left _ _,
        (run_succ_of_step (step_stream_exhausted hs hrp) 0).trans rfl, hsrc, hend⟩
    · obtain ⟨u, hi, hstep, hu | ⟨hu, hinv, hlt⟩⟩ := h.step_cases hs hrp
      · exact ⟨u, 1, h.execLexParse_ends hs hrp hi hu, Nat.le_add_left _ _, (run_succ_of_step hstep 0).trans rfl, hu,
          h.iterate_ended hs hrp hi hu⟩
      · obtain ⟨t, k, hparse, hk, hrun, hend⟩ := ih u.work hlt hinv hu rfl
        exact ⟨t, k + 1, (h.execLexParse_iterate hs hrp hi hu).trans hparse, by omega,
          (run_succ_of_step hstep k).trans hrun, hend⟩

/-- Up to `k` steps of a `LEX.PARSE` under way, stopping where it ends or no byte is left, each bring the work down. -/
theorem State.Inv.run_work_le (h : s.Inv) (hs : s.source = .stream) (k : Nat) :
    ∃ j t, j ≤ k ∧ Host.Core.run Sys2Proof.core j s = .next t ∧
      (t.source = .host ∨ t.rp = t.inlen ∨ (j = k ∧ t.work + k ≤ s.work)) := by
  induction k generalizing s with
  | zero => exact ⟨0, s, Nat.le_refl 0, rfl, .inr (.inr ⟨rfl, Nat.le_refl _⟩)⟩
  | succ k ih =>
    by_cases hrp : s.rp = s.inlen
    · exact ⟨0, s, Nat.zero_le _, rfl, .inr (.inl hrp)⟩
    · obtain ⟨u, -, hstep, hu | ⟨hu, hinv, hlt⟩⟩ := h.step_cases hs hrp
      · exact ⟨1, u, Nat.le_add_left _ _, (run_succ_of_step hstep 0).trans rfl, .inl hu⟩
      · obtain ⟨j, t, hj, hrun, hend⟩ := ih hinv hu
        refine ⟨j + 1, t, Nat.succ_le_succ hj, (run_succ_of_step hstep j).trans hrun, ?_⟩
        exact hend.imp_right fun hend => hend.imp_right fun ⟨hjk, hwork⟩ => ⟨by omega, by omega⟩

/-- Three iterations that do not end the command consume a byte for good (`40_lexer_core.md` R146): less work by three is
less than what the pushbacks alone can save. -/
theorem State.unread_lt_of_work (h : s.rp < s.inlen) (hw : t.work + 3 ≤ s.work) : t.inlen - t.rp < s.inlen - s.rp := by
  have := t.state.pushRank_le
  unfold State.work at hw
  omega

end

/-- Settles O6: the iterations from the state the command starts its loop in, whose work is within the bound of R422. -/
theorem parseIsItsIterations : Obligations.ParseIsItsIterations := by
  intro s h
  have hstream : State.Inv { s with source := .stream } := (h.kept_host s.result s.port .stream).1
  obtain ⟨t, k, hparse, hk, hrun, hsrc, hend⟩ := hstream.execLexParse_run rfl
  have hwork := State.work_le { s with source := .stream }
  exact ⟨t, k, hparse, hk.trans (Nat.succ_le_succ hwork), hrun, hsrc, hend.parse_result⟩

/-- Settles O17: after three steps that neither ended the command nor used up the bytes, the work is less by three. -/
theorem threeIterationsConsume : Obligations.ThreeIterationsConsume := by
  intro s h hs hlt
  obtain ⟨j, t, hj, hrun, hend⟩ := h.run_work_le hs 3
  have hj1 : 1 ≤ j := by
    by_contra hj0
    obtain rfl : j = 0 := by omega
    cases hrun
    rcases hend with hh | hrp | ⟨h3, -⟩
    · exact absurd (hs.symm.trans hh) nofun
    · exact hlt.ne hrp
    · cases h3
  refine ⟨j, t, hj1, hj, hrun, ?_⟩
  rcases hend with hh | hrp | ⟨-, hwork⟩
  · exact .inl hh
  · exact .inr (by omega)
  · exact .inr (State.unread_lt_of_work hlt hwork)

end Sys2Proof.Machine
end

section
/-! PROOFS. The packets of a `LEX.PARSE` are not empty: the candidate of a text chain begins with its leader, which is
no line end, and the other chains deliver their candidates whole. -/

namespace Sys2Proof.Machine

/-! ## The length of an accepted packet -/

/-- Stripping the line ends (`41_text_chains.md` R176, R187) leaves something of a candidate with another byte. -/
theorem strippedLength_pos {cand : List Byte} {b : Byte} (hb : b ∈ cand) (hn : isLineEnd b = false) :
    0 < strippedLength cand := by
  refine List.length_pos_iff.2 fun h => ?_
  have hall := List.dropWhile_eq_nil_iff.1 h b (List.mem_reverse.2 hb)
  exact absurd (hn.symm.trans hall) nofun

/-- What a validation pass accepts of a candidate with a byte that is no line end is not empty. -/
theorem validate_accept_pos {cfg : Config} {r : Recog} {cand : List Byte} {ty : PacketType} {n : Nat} {b : Byte}
    (hb : b ∈ cand) (hn : isLineEnd b = false) (h : validate cfg r cand = .accept ty n) : 0 < n := by
  have hs := strippedLength_pos hb hn
  have hlen := List.length_pos_of_mem hb
  cases r with
  | branch ch k =>
    obtain ⟨-, hpos, -⟩ := validateBranch_accept h hlen
    exact hpos
  | _ =>
    simp only [validate, validateComment, validateNmea, validateJson, validateUbx, validateAllystar, validateCasic,
      validateGeostar, validateGreis, validateRtcm3] at h
    repeat' split at h
    all_goals cases h
    all_goals assumption

/-- The GREIS chain delivers its candidate whole (`42_binary_chains.md` R284). -/
theorem validateGreis_accept {cand : List Byte} {ty : PacketType} {n : Nat} (h : validateGreis cand = .accept ty n) :
    n = cand.length := by
  unfold validateGreis at h
  repeat' split at h
  all_goals cases h
  all_goals rfl

/-- No leader is a line end (`30_encoding.md` R95). -/
theorem LexState.leaders_not_lineEnd {q : LexState} {ls : List Byte} (h : q.leaders = some ls) :
    ∀ b ∈ ls, isLineEnd b = false := by
  cases q with
  | branch ch k => cases h
  | _ => revert h; revert ls; decide

/-! ## The recognitions of the states without a leader -/

/-- The transition recognises nothing, or a GREIS message. -/
def Trans.OnlyGreis (tr : Trans) : Prop := ∀ r, tr.act = .recog r → r = .greis

section
variable {s : State} {q : LexState} {a b : Trans} {p d m : Nat} {c : Byte}

theorem Trans.OnlyGreis.ite {e : Prop} [Decidable e] (ha : a.OnlyGreis) (hb : b.OnlyGreis) :
    (if e then a else b).OnlyGreis := by
  split <;> assumption

theorem Trans.OnlyGreis.go : Trans.OnlyGreis ⟨.go q, p, d, m⟩ := nofun

theorem Trans.OnlyGreis.push : Trans.OnlyGreis ⟨.push q, p, d, m⟩ := nofun

theorem Trans.OnlyGreis.drop : Trans.OnlyGreis ⟨.drop q, p, d, m⟩ := nofun

theorem Trans.OnlyGreis.greis : Trans.OnlyGreis ⟨.recog .greis, p, d, m⟩ := fun _ h => (Act.recog.inj h).symm

theorem Trans.OnlyGreis.expect {ok : Bool} : (s.expect ok q).OnlyGreis := .ite .go .push

/-- The ground dispatch map (`41_text_chains.md` R171 to R173): into a chain, or dropped. -/
theorem Trans.OnlyGreis.groundState : (nextGroundState c s).OnlyGreis := by
  have other {c : Byte} : (nextOtherByte c s).OnlyGreis := by
    refine .ite ?_ .drop
    unfold rtcm2Offer
    split
    · exact .drop
    · exact .go
    · exact .go
  have known {bit : Nat} {c : Byte} {q : LexState} : (leader s bit c q).OnlyGreis := .ite .go other
  have opens {bit : Nat} {c : Byte} {ch : OpenChain} : (openLeader s bit c ch).OnlyGreis := .ite .go other
  exact .ite known <| .ite known <| .ite known <| .ite (.ite .go other) <| .ite known <| .ite known <|
    .ite known <| .ite known <| .ite opens <| .ite opens <| .ite opens <| .ite opens <| .ite opens <|
    .ite known <| .ite opens <| .ite known <| .ite opens other

/-- `GREIS_LENGTH_2` (`42_binary_chains.md` R280). -/
theorem Trans.OnlyGreis.greisLength2 : (nextGreisLength2 c s).OnlyGreis := by
  refine .ite ?_ .push
  dsimp only
  repeat' split
  exacts [nofun, .greis, .go]

/-- The GREIS countdown (`42_binary_chains.md` R282). -/
theorem Trans.OnlyGreis.greisCountdown : (greisCountdown s).OnlyGreis := by
  refine .ite .push ?_
  split
  · exact .greis
  · exact .go

/-- In a state whose candidate has no leader, idle or of the GREIS chain, no other recognition is made. -/
theorem LexState.onlyGreis_of_no_leader (hq : q.isBranch = false) (hl : q.leaders = none) (c : Byte) (s : State) :
    (q.rule c s).OnlyGreis := by
  cases q with
  | groundState => exact .groundState
  | commentRecognized | ubxRecognized | allyRecognized | casicRecognized | geostarRecognized | rtcm3Recognized
  | greisId1 => exact .expect
  | nmeaRecognized => exact .ite .go (.ite .go .push)
  | jsonRecognized | greisId2 | greisLength1 => exact .ite .go .push
  | greisRecognized => exact .ite .drop (.ite .push .expect)
  | greisLength2 => exact .greisLength2
  | greisLength3 | greisPayload => exact .greisCountdown
  | branch ch k => cases hq
  | _ => cases hl

/-! ## Every recognition -/

/-- A recognition accepts a packet of at least one byte (`40_lexer_core.md` R143, R151). -/
theorem State.Inv.accept_pos (h : s.Inv) (f : s.FrameOk) {r : Recog} {ty : PacketType} {n : Nat}
    (hr : (s.state.rule c s.consume).act = .recog r) (hv : validate s.cfg r s.nextCandidate = .accept ty n) :
    0 < n := by
  cases hl : s.state.leaders with
  | some ls =>
    have hfirst : s.inByte 0 ∈ s.nextCandidate := by
      refine List.mem_of_getElem? (i := 0) ?_
      rw [State.nextCandidate, State.inRange_getElem?, if_pos (Nat.succ_pos _)]
    exact validate_accept_pos hfirst (LexState.leaders_not_lineEnd hl _ (f.leader ls hl)) hv
  | none =>
    obtain rfl := LexState.onlyGreis_of_no_leader h.baseline hl c s.consume r hr
    rw [validateGreis_accept hv, State.nextCandidate_length]
    exact Nat.succ_pos _

/-- An iteration that ends the command, with the candidate in its frame. -/
theorem State.Inv.iterate_ended_pos {t : State} (h : s.Inv) (f : s.FrameOk) (hs : s.source = .stream)
    (hrp : s.rp ≠ s.inlen) (hi : iterate s = .next t) (ht : t.source = .host) : t.Ended 1 := by
  cases (h.iterate_eq hrp).symm.trans hi
  exact perform_ended (s := s.consume) hs ht fun _ _ _ hr hv => h.accept_pos f hr hv

/-- A state of a `LEX.PARSE`: both invariants hold, and if the command has ended it has left one of the rows. -/
def State.Parsed (t : State) : Prop := (t.Inv ∧ t.FrameOk) ∧ (t.source = .host → t.Ended 1)

/-- `LEX.PARSE` (`40_lexer_core.md` R134) leaves one of the rows. -/
theorem State.Inv.execLexParse_parsed {t : State} (h : s.Inv) (f : s.FrameOk) (ht : execLexParse s = .next t) :
    t.Parsed := by
  obtain ⟨hstream, hframe⟩ := h.kept_host s.result s.port .stream
  refine parseLoop_induct (P := State.Parsed) (fun u v ⟨⟨hu, huf⟩, _⟩ hs hrp hi => ?_)
    (fun u ⟨⟨hu, huf⟩, _⟩ hs hrp => ?_) rfl ⟨⟨hstream, hframe f⟩, nofun⟩ ht
  · obtain ⟨hv, hvf⟩ := hu.kept_iterate hi
    exact ⟨⟨hv, hvf huf⟩, hu.iterate_ended_pos huf hs hrp hi⟩
  · obtain ⟨hv, hvf⟩ := hu.kept_exhausted
    exact ⟨⟨hv, hvf huf⟩, fun _ => (State.exhausted_ended 1 hrp).2⟩

end

/-- Settles O7: the command ends back at the host, so the state it leaves is one of the rows. -/
theorem parseResults : Obligations.ParseResults := by
  intro s t h f ht
  have hstream : State.Inv { s with source := .stream } := (h.kept_host s.result s.port .stream).1
  obtain ⟨t', -, hparse, -, -, hsrc, -⟩ := hstream.execLexParse_run rfl
  obtain rfl : t' = t := Host.Outcome.next.inj (hparse.symm.trans ht)
  exact (h.execLexParse_parsed f ht).2 hsrc

end Sys2Proof.Machine
end

section
/-! PROOFS. A payload cut short: each of its bytes is counted down, and with the last buffered one `LEX.PARSE` waits. -/

namespace Sys2Proof.Machine

/-- In `q` a byte is counted down into the payload state `pay` when more than `k` payload bytes are pending; GREIS takes
the last one for the end of the frame, so for it `k` is 1 (`40_lexer_core.md` R149, `42_binary_chains.md` R282). -/
def LexState.CountsInto (q pay : LexState) (k : Nat) : Prop :=
  ∀ (c : Byte) (s : State), k < s.pending → q.rule c s = s.load (s.pending - 1) (.go pay)

theorem LexState.countsInto_of_countdown {q pay trailer : LexState} (h : ∀ c s, q.rule c s = s.countdown pay trailer) :
    q.CountsInto pay 0 := fun c s hp => (h c s).trans (if_neg hp.ne')

theorem LexState.countsInto_of_greisCountdown {q : LexState} (h : ∀ c s, q.rule c s = greisCountdown s) :
    q.CountsInto .greisPayload 1 := fun c s hp => by
  rw [h, greisCountdown, if_neg (by omega), if_neg (by omega)]

/-- The fragment result after `m` payload bytes, in the payload state. -/
def State.afterFragment (s : State) (pay : LexState) (m : Nat) : State :=
  { s with
    state := pay, rp := s.rp + m, pending := s.pending - m, counter := s.counter + BitVec.ofNat 64 m
    result := .parse .none 0 false, source := .host }

section
variable {s : State} {q pay : LexState} {k m : Nat}

/-- A payload byte and then `m` more. -/
theorem State.afterLoad_afterFragment (s : State) (pay : LexState) (m : Nat) :
    (s.afterLoad (s.pending - 1) pay).afterFragment pay m = s.afterFragment pay (m + 1) := by
  have hcounter : s.counter + 1 + BitVec.ofNat 64 m = s.counter + BitVec.ofNat 64 (m + 1) := by
    rw [BitVec.add_assoc, BitVec.add_comm 1, ← BitVec.add_assoc, State.counter_succ]
  simp only [State.afterFragment, State.afterLoad, hcounter, Nat.sub_sub, Nat.add_assoc, Nat.add_comm 1 m]

/-- With every byte consumed and room left in the buffer, what waits is the fragment result (`40_lexer_core.md` R135). -/
theorem State.exhausted_eq_afterFragment (hq : s.state = q) (hfull : s.inlen ≠ s.cfg.inCap) :
    s.exhausted = s.afterFragment q 0 := by
  subst hq
  rcases s.exhausted_cases with ⟨he, -⟩ | ⟨-, he⟩
  · exact absurd he hfull
  · simp only [he, State.afterFragment, State.finish, BitVec.add_zero, Nat.add_zero, Nat.sub_zero]

/-- One payload byte in the loop of `LEX.PARSE`. -/
theorem parseLoop_payloadByte (b : Nat) (h : s.Ready) (hs : s.source = .stream) (hq : s.state = q)
    (hcount : q.CountsInto pay k) (hp : k < s.pending) :
    parseLoop (b + 1) s = parseLoop b (s.afterLoad (s.pending - 1) pay) := by
  have hi : iterate s = .next (s.afterLoad (s.pending - 1) pay) := by
    rw [iterate, iterateIn_eq, hq]
    exact iteration_load h (hcount _ s.consume hp)
  have hgo : ¬(s.afterLoad (s.pending - 1) pay).source = .host := fun hh => nomatch hs.symm.trans hh
  rw [parseLoop_step b h.2.ne hi, if_neg hgo]

/-- The loop of `LEX.PARSE` over `m` payload bytes and one, by induction on them (`40_lexer_core.md` R149). -/
theorem parseLoop_payload {b : Nat} (hst : s.cfg.stashEn = false) (hs : s.source = .stream) (hq : s.state = q)
    (hcount : q.CountsInto pay k) (hpay : pay.CountsInto pay k) (hm : s.rp + (m + 1) = s.inlen)
    (hp : m + 1 + k ≤ s.pending) (hb : m ≤ b) (hfull : s.inlen ≠ s.cfg.inCap) :
    parseLoop (b + 1) s = .next (s.afterFragment pay (m + 1)) := by
  induction m generalizing s q b with
  | zero =>
    rw [parseLoop_payloadByte b ⟨hst, by omega⟩ hs hq hcount (by omega), parseLoop_exhausted b hm,
      ← State.afterLoad_afterFragment]
    exact congrArg _ (State.exhausted_eq_afterFragment rfl hfull)
  | succ m ih =>
    obtain ⟨b, rfl⟩ : ∃ b', b = b' + 1 := ⟨b - 1, by omega⟩
    rw [parseLoop_payloadByte (b + 1) ⟨hst, by omega⟩ hs hq hcount (by omega), ← State.afterLoad_afterFragment]
    have hrest : (s.afterLoad (s.pending - 1) pay).rp + (m + 1) = (s.afterLoad (s.pending - 1) pay).inlen :=
      (Nat.add_right_comm ..).trans hm
    have hleft : m + 1 + k ≤ (s.afterLoad (s.pending - 1) pay).pending := Nat.le_sub_one_of_lt (by omega)
    exact ih (s := s.afterLoad (s.pending - 1) pay) hst hs rfl hpay hrest hleft (Nat.le_of_succ_le_succ hb) hfull

/-- A `LEX.PARSE` whose bytes are all payload and not the last that ends a frame (`40_lexer_core.md` R149). -/
theorem execLexParse_payload (h : s.Ready) (hq : s.state = q) (hcount : q.CountsInto pay k)
    (hpay : pay.CountsInto pay k) (hp : s.inlen - s.rp + k ≤ s.pending) (hfull : s.inlen ≠ s.cfg.inCap) :
    execLexParse s = .next (s.afterFragment pay (s.inlen - s.rp)) := by
  obtain ⟨hst, hlt⟩ := h
  obtain ⟨m, hm⟩ : ∃ m, s.inlen - s.rp = m + 1 := ⟨s.inlen - s.rp - 1, by omega⟩
  obtain ⟨b, hb⟩ : ∃ b, s.iterationBound = b + 1 := ⟨s.iterationBound - 1, by rw [State.iterationBound_off hst]; omega⟩
  have hmb : m ≤ b := by
    rw [State.iterationBound_off hst] at hb
    omega
  have hrest : s.rp + (m + 1) = s.inlen := by omega
  rw [execLexParse, hb, hm]
  exact parseLoop_payload (s := { s with source := .stream }) hst rfl hq hcount hpay hrest (hm ▸ hp) hmb hfull

/-- The payload states of the declared-length chains, each with the states a byte is counted down in. -/
def payloadPairs : List (LexState × LexState) :=
  [(.ubxLength2, .ubxPayload), (.ubxPayload, .ubxPayload), (.allyLength2, .allyPayload), (.allyPayload, .allyPayload),
    (.casicMessageId, .casicPayload), (.casicPayload, .casicPayload), (.geostarLength2, .geostarPayload),
    (.geostarPayload, .geostarPayload), (.greisLength3, .greisPayload), (.greisPayload, .greisPayload),
    (.rtcm3Length2, .rtcm3Payload), (.rtcm3Payload, .rtcm3Payload)]

/-- From the first state of the pair payload is counted down into the second, which counts on: every pending byte, or in
GREIS all but the last. -/
def CountsPayload (p : LexState × LexState) : Prop :=
  (p.1.CountsInto p.2 0 ∧ p.2.CountsInto p.2 0) ∨
    (p.2 = .greisPayload ∧ p.1.CountsInto p.2 1 ∧ p.2.CountsInto p.2 1)

theorem countsPayload_of_mem : ∀ p ∈ payloadPairs, CountsPayload p := by
  have count {q pay tr : LexState} (hq : ∀ c s, q.rule c s = s.countdown pay tr)
      (hpay : ∀ c s, pay.rule c s = s.countdown pay tr) : CountsPayload (q, pay) :=
    .inl ⟨LexState.countsInto_of_countdown hq, LexState.countsInto_of_countdown hpay⟩
  have greis {q : LexState} (hq : ∀ c s, q.rule c s = greisCountdown s) : CountsPayload (q, .greisPayload) :=
    .inr ⟨rfl, LexState.countsInto_of_greisCountdown hq, LexState.countsInto_of_greisCountdown fun _ _ => rfl⟩
  have ubx {q : LexState} := count (q := q) (pay := .ubxPayload) (tr := .ubxChecksumA)
  have ally {q : LexState} := count (q := q) (pay := .allyPayload) (tr := .allyChecksumA)
  have casic {q : LexState} := count (q := q) (pay := .casicPayload) (tr := .casicChecksum1)
  have geostar {q : LexState} := count (q := q) (pay := .geostarPayload) (tr := .geostarChecksum1)
  have rtcm3 {q : LexState} := count (q := q) (pay := .rtcm3Payload) (tr := .rtcm3Crc1)
  simp only [payloadPairs, List.forall_mem_cons]
  refine ⟨ubx ?_ ?_, ubx ?_ ?_, ally ?_ ?_, ally ?_ ?_, casic ?_ ?_, casic ?_ ?_, geostar ?_ ?_, geostar ?_ ?_,
    greis ?_, greis ?_, rtcm3 ?_ ?_, rtcm3 ?_ ?_,
    List.forall_mem_nil _⟩
  all_goals exact fun _ _ => rfl

end

/-- Settles O10: a payload state counts its bytes down, and in GREIS more bytes are pending than are buffered. -/
theorem truncatedPayloadWaits : Obligations.TruncatedPayloadWaits := by
  intro s q pay hpair hst hq hlt hfull hp hgreis
  obtain ⟨k, hcount, hpay, hk⟩ :
      ∃ k, q.CountsInto pay k ∧ pay.CountsInto pay k ∧ s.inlen - s.rp + k ≤ s.pending := by
    rcases countsPayload_of_mem _ hpair with ⟨hcount, hpay⟩ | ⟨hg, hcount, hpay⟩
    · exact ⟨0, hcount, hpay, hp⟩
    · exact ⟨1, hcount, hpay, hgreis hg⟩
  have hend : s.rp + (s.inlen - s.rp) = s.inlen := Nat.add_sub_of_le hlt.le
  refine (execLexParse_payload ⟨hst, hlt⟩ hq hcount hpay hk hfull).trans ?_
  rw [State.afterFragment, hend]

end Sys2Proof.Machine
end

section
/-! PROOFS. The LEX commands at their edges (`LEX.INIT`, a feed that may be cut short, a parse with nothing to consume),
and the states that hand the start of a new packet over to the ground state. -/

namespace Sys2Proof.Machine

section
variable {s : State} {c : Byte}

/-! ## `LEX.FEED` -/

/-- The appended bytes stand at the old tail, in order (`40_lexer_core.md` R133). -/
theorem State.append_inByte_tail (bs : List Byte) {i : Nat} (hi : i < bs.length) :
    (s.append bs).inByte (s.inlen + i) = bs[i] := by
  refine readByte_of_byteAt? _ _ _ _ _ (Nat.add_lt_add_left hi _) ?_
  rw [State.append_inbuf, Memory.byteAt?_writeBytes, if_pos (by omega), Nat.add_sub_cancel_left,
    List.getElem?_eq_getElem hi]

/-! ## `LEX.PARSE` with nothing to consume -/

/-- `LEX.PARSE` with every byte consumed is `Exhausted` (`40_lexer_core.md` R134, R135). -/
theorem execLexParse_of_consumed (h : s.rp = s.inlen) :
    execLexParse s = .next (State.exhausted { s with source := .stream }) :=
  parseLoop_exhausted (s := { s with source := .stream }) _ h

theorem execLexParse_full (h : s.rp = s.inlen) (hf : s.inlen = s.cfg.inCap) :
    execLexParse s = .next (State.raise { s with source := .stream } .full) :=
  (execLexParse_of_consumed h).trans (congrArg _ (if_pos hf))

theorem execLexParse_fragment (h : s.rp = s.inlen) (hf : s.inlen ≠ s.cfg.inCap) :
    execLexParse s = .next { s with result := .parse .none 0 false, source := .host } :=
  (execLexParse_of_consumed h).trans (congrArg _ (if_neg hf))

/-! ## The starts of new packets -/

/-- The tables do not take the byte as an address character (`41_text_chains.md` R181, R192). -/
structure TablesLeave (cfg : Config) (c : Byte) : Prop where
  talker : ∀ p ∈ cfg.talker2, c ∉ p.2
  aisPrefix : ∀ p ∈ cfg.aisPrefix, p.1 ≠ c ∧ p.2 ≠ c

/-- A leader test that fails pushes back to the ground state (`42_binary_chains.md` R230(a)). -/
theorem State.expect_of_false {ok : Bool} (hok : ok = false) (q : LexState) :
    s.expect ok q = s.plain (.push .groundState) := by
  subst hok
  exact State.expect_false q

theorem TablesLeave.nmeaLead (h : TablesLeave s.cfg c) (x : Byte) :
    nextNmeaLead x c s = s.plain (.push .groundState) := by
  refine State.expect_of_false (List.any_eq_false.2 fun p hp => ?_) _
  simp [h.talker p hp]

theorem TablesLeave.nmeaBang (h : TablesLeave s.cfg c) : nextNmeaBang c s = s.plain (.push .groundState) := by
  refine State.expect_of_false (List.any_eq_false.2 fun p hp => ?_) _
  simp [(h.aisPrefix p hp).1]

theorem TablesLeave.aisLead1 (h : TablesLeave s.cfg c) : nextAisLead1 c s = s.plain (.push .groundState) := by
  refine State.expect_of_false (List.any_eq_false.2 fun p hp => ?_) _
  simp [(h.aisPrefix p hp).2]

/-- `NMEA_RECOGNIZED` (`41_text_chains.md` R186) takes of the two bytes only `$`, with the NMEA chain enabled. -/
theorem nextNmeaRecognized_packetStart (hc : c = 0x24 ∨ c = 0x7B)
    (hn : ¬(c = 0x24 ∧ s.cfg.chainEn.getLsbD 1 = true)) :
    nextNmeaRecognized c s = s.plain (.push .groundState) := by
  have hbang : ¬(c = 0x21 ∧ s.cfg.chainEn.getLsbD 2 = true) := by rcases hc with rfl | rfl <;> nofun
  rw [nextNmeaRecognized, if_neg hn, if_neg hbang]

/-- The states that hand the start of a new packet over to the ground state (`40_lexer_core.md` R147). -/
def offeringStates : List LexState :=
  [.commentRecognized, .nmeaDollar, .nmeaLeadG, .nmeaLeadA, .nmeaLeadB, .nmeaLeadH, .nmeaLeadI, .nmeaLeadQ, .nmeaLeadS,
    .nmeaLeadT, .nmeaLeadW, .nmeaLeadY, .nmeaVendorLead, .nmeaPashrA, .nmeaPashrS, .nmeaPashrH, .nmeaLeaderEnd, .nmeaCr,
    .nmeaRecognized, .nmeaBang, .aisLead1, .jsonRecognized, .ubxRecognized, .allyRecognized, .casicRecognized,
    .geostarRecognized, .greisRecognized, .rtcm3Recognized]

/-- `$` and the left brace in those states: the tables decide in the address states, the byte alone in the others. -/
theorem LexState.rule_packetStart {q : LexState} (hc : c = 0x24 ∨ c = 0x7B) (ht : TablesLeave s.cfg c)
    (hq : q ∈ offeringStates) (hn : ¬(q = .nmeaRecognized ∧ c = 0x24 ∧ s.cfg.chainEn.getLsbD 1 = true))
    (hj : ¬(q = .jsonRecognized ∧ c = 0x7B)) : q.rule c s = s.plain (.push .groundState) := by
  cases q with
  | nmeaLeadG | nmeaLeadA | nmeaLeadB | nmeaLeadH | nmeaLeadI | nmeaLeadQ | nmeaLeadS | nmeaLeadT | nmeaLeadW
  | nmeaLeadY => exact ht.nmeaLead _
  | nmeaBang => exact ht.nmeaBang
  | aisLead1 => exact ht.aisLead1
  | nmeaRecognized => exact nextNmeaRecognized_packetStart hc fun h => hn ⟨rfl, h⟩
  | jsonRecognized => exact if_neg fun h => hj ⟨rfl, h⟩
  | commentRecognized | nmeaDollar | nmeaVendorLead | nmeaPashrA | nmeaPashrS | nmeaPashrH | nmeaLeaderEnd | nmeaCr
  | ubxRecognized | allyRecognized | casicRecognized | geostarRecognized | greisRecognized | rtcm3Recognized =>
    rcases hc with rfl | rfl <;> rfl
  | branch ch k => simp [offeringStates] at hq
  | _ => exact absurd hq (by decide)

/-- After a pushback to the ground state the byte not consumed is the first of the buffer (`40_lexer_core.md` R148). -/
theorem State.afterPushGround_offers (hlt : s.rp < s.inlen) (hb : s.inbuf.byteAt? s.rp = some c) :
    s.afterPushGround.state = .groundState ∧ s.afterPushGround.rp = 0 ∧ s.afterPushGround.inByte 0 = c := by
  unfold State.afterPushGround
  split
  · next h0 =>
    exact ⟨rfl, h0, readByte_of_byteAt? _ _ _ _ _ (Nat.zero_lt_of_lt hlt) (h0 ▸ hb)⟩
  · refine ⟨rfl, rfl, readByte_of_byteAt? _ _ _ _ _ (Nat.sub_pos_of_lt hlt) ?_⟩
    rw [Memory.byteAt?_window, Nat.add_zero, if_pos hlt, hb]

end

/-- Settles O22: the state's row is the iteration of its rule, which pushes the byte back. -/
theorem newPacketStartsAreOffered : Obligations.NewPacketStartsAreOffered := by
  intro s q c h hc htalker hais hq hn hj
  have hrule : q.rule c s.consume = s.consume.plain (.push .groundState) :=
    LexState.rule_packetStart (s := s.consume) hc ⟨htalker, hais⟩ hq hn hj
  have hrow : (stateRow q c).isSome = true := by
    have hbranch : ∀ q ∈ offeringStates, q.isBranch = false := by decide
    rw [stateRow_isSome, hbranch q hq]
    rfl
  obtain ⟨i, hi⟩ := Option.isSome_iff_exists.1 hrow
  refine ⟨?_, fun hb => State.afterPushGround_offers h.2 hb⟩
  rw [hi, Option.map_some, exec_stateRow hi]
  exact congrArg some (iteration_pushGround h hrule)

/-- Settles O4: the bytes that fit are the bytes appended. -/
theorem feedAppendsBytes : Obligations.FeedAppendsBytes := by
  intro s bytes
  have hlen : (bytes.take (min bytes.length (s.cfg.inCap - s.inlen))).length =
      min bytes.length (s.cfg.inCap - s.inlen) := by
    rw [List.length_take]
    omega
  refine ⟨_, rfl, rfl, congrArg (s.inlen + ·) hlen, fun i hi => ?_, fun i hi => s.append_inByte _ hi, rfl, rfl⟩
  refine (State.append_inByte_tail _ (hi.trans_eq hlen.symm)).trans ?_
  rw [List.getElem_take, List.getD_eq_getElem]

/-- Settles O5: the loop ends at its first test, with `E_FULL` or with the fragment result. -/
theorem parseOnExhaustedBuffer : Obligations.ParseOnExhaustedBuffer :=
  fun _ h => ⟨execLexParse_full h, execLexParse_fragment h⟩

/-- Settles O3: the values are those of the record `LEX.INIT` writes, and the `LEX.PARSE` after it finds an empty buffer. -/
theorem initPerformsReset : Obligations.InitPerformsReset := by
  intro s
  refine ⟨s.init, rfl, rfl, rfl, rfl, rfl, rfl, rfl, rfl, rfl, rfl, rfl, rfl, fun h => ⟨if_pos h, if_pos h⟩,
    fun h => ?_, fun h => if_pos h, fun h => if_neg (Bool.eq_false_iff.1 h), rfl, rfl, rfl, rfl, rfl, fun hcap => ?_⟩
  · have hoff : ¬s.cfg.stashEn = true := Bool.eq_false_iff.1 h
    exact ⟨if_neg hoff, if_neg hoff⟩
  · exact ⟨_, execLexParse_fragment (s := s.init) rfl hcap.ne, rfl⟩

end Sys2Proof.Machine
end

section
/-! PROOFS. The ground leaders and the rows of the text chains (`41_text_chains.md`): what each row does on every byte. -/

namespace Sys2Proof.Machine

/-! ## The byte classes as inequalities -/

theorem isPrintable_eq (c : Byte) : isPrintable c = decide (0x20 ≤ c ∧ c ≤ 0x7E) := (Bool.decide_and ..).symm

theorem isUpper_eq (c : Byte) : isUpper c = decide (0x41 ≤ c ∧ c ≤ 0x5A) := (Bool.decide_and ..).symm

theorem isDigit_iff (c : Byte) : isDigit c = true ↔ 0x30 ≤ c ∧ c ≤ 0x39 := by simp [isDigit]

theorem isLower_iff (c : Byte) : isLower c = true ↔ 0x61 ≤ c ∧ c ≤ 0x7A := by simp [isLower]

section
variable {s t u : State} {rule f g : State → Trans} {q : LexState} {c : Byte} {i : Instr}

/-! ## Rules that test the byte -/

/-- An iteration of a rule that decides between two rules is the iteration of the one decided for. -/
theorem iteration_ite {p : Prop} [Decidable p] (hf : iteration f s = .next t) (hg : iteration g s = .next u) :
    iteration (fun v => if p then f v else g v) s = .next (if p then t else u) := by
  split
  · exact hf
  · exact hg

/-- A rule that goes on exactly on the bytes of a class and pushes back the others (`42_binary_chains.md` R230(a)). -/
theorem iteration_expect_iff {ok : Bool} {P : Prop} (h : s.Ready) (hr : rule s.consume = s.consume.expect ok q)
    (hok : ok = true ↔ P) :
    (P → iteration rule s = .next (s.afterGo q)) ∧ (¬P → iteration rule s = .next s.afterPushGround) := by
  rw [iteration_expect h hr, State.afterTest]
  exact ⟨fun hp => by rw [if_pos (hok.2 hp)], fun hp => by rw [if_neg (mt hok.1 hp)]⟩

/-! ## The two dispatch maps -/

/-- What the iteration of the ground state leaves on a byte, both rows of the byte leave. -/
theorem exec_groundRows_next (hi : decodeGb c = i) (ht : iteration (nextGroundState c) s = .next t) :
    exec i s = .next t ∧ exec (.stGroundState c) s = .next t := by
  obtain ⟨hgb, hst⟩ := exec_groundRows (s := s) hi
  exact ⟨hgb.trans ht, hst.trans ht⟩

/-- The row of a talker byte and the row of `NMEA_DOLLAR` on it enter the state the talker dispatch names
(`41_text_chains.md` R177). -/
theorem exec_talkerRows_go (h : s.Ready) (hi : decodeTk c = i)
    (hr : nextNmeaDollar c s.consume = s.consume.plain (.go q)) :
    exec i s = .next (s.afterGo q) ∧ exec (.stNmeaDollar c) s = .next (s.afterGo q) := by
  have hgo : iteration (nextNmeaDollar c) s = .next (s.afterGo q) := iteration_go h hr
  exact ⟨by rw [← hi, exec_decodeTk, hgo], hgo⟩

/-- A byte outside the talker dispatch map (`30_encoding.md` R96) is any other byte. -/
theorem nextNmeaDollar_other (hc : c ∉ talkerBytes) (v : State) : nextNmeaDollar c v = nextTkOther c v := by
  simp only [talkerBytes, List.mem_cons, List.not_mem_nil, or_false, not_or] at hc
  simp only [nextNmeaDollar, hc, if_false]

/-! ## The tables of the address states -/

theorem talkerAccepts_iff (cfg : Config) (x c : Byte) :
    talkerAccepts cfg x c = true ↔ ∃ e ∈ cfg.talker2, e.1 = x ∧ c ∈ e.2 := by
  simp [talkerAccepts]

/-- A talker state goes on exactly on the second characters `TALKER2` lists for it (`41_text_chains.md` R178, R181). -/
theorem iteration_nmeaLead (h : s.Ready) (x : Byte) :
    ((∃ e ∈ s.cfg.talker2, e.1 = x ∧ c ∈ e.2) →
      iteration (nextNmeaLead x c) s = .next (s.afterGo .nmeaLeaderEnd)) ∧
    ((¬∃ e ∈ s.cfg.talker2, e.1 = x ∧ c ∈ e.2) → iteration (nextNmeaLead x c) s = .next s.afterPushGround) :=
  iteration_expect_iff h rfl (talkerAccepts_iff s.cfg x c)

/-- The two bytes of an AIS address are looked up as a pair (`41_text_chains.md` R191). -/
theorem aisPair_iff (table : List (Byte × Byte)) (x c : Byte) :
    table.any (fun p => p.2 == c && p.1 == x) = true ↔ (x, c) ∈ table := by
  simp [and_comm, Prod.exists]

/-! ## The comment chain -/

/-- A byte of a comment other than its line feed is tested against the body's alphabet (`41_text_chains.md` R174). -/
theorem iteration_commentBody (h : s.Ready) (hc : c ≠ 0x0A) :
    ((c = 0x0D ∨ c = 0x09 ∨ (0x20 ≤ c ∧ c ≤ 0x7E)) → iteration (nextCommentBody c) s = .next (s.afterGo .commentBody)) ∧
    (¬(c = 0x0D ∨ c = 0x09 ∨ (0x20 ≤ c ∧ c ≤ 0x7E)) →
      iteration (nextCommentBody c) s = .next s.afterPushGround) := by
  refine iteration_expect_iff h (if_neg hc) ?_
  rw [isPrintable_eq]
  simp [or_assoc]

/-! ## The sentence bodies -/

/-- `NmeaBody` (`41_text_chains.md` R184): the line end, the starts of a new packet, and the text. -/
theorem iteration_nmeaBody (h : s.Ready) :
    iteration (nmeaBody c) s =
      .next (if c = 0x0D then s.afterGo .nmeaCr
        else if c = 0x0A then s.afterVerdict .nmeaRecognized (validateNmea s.cfg s.nextCandidate)
        else if c = 0x24 ∨ c = 0x7B then s.afterPushGround
        else s.afterTest (decide (0x20 ≤ c ∧ c ≤ 0x7E)) .nmeaLeaderEnd) := by
  have htext : iteration (fun v => v.expect (isPrintable c) .nmeaLeaderEnd) s =
      .next (s.afterTest (decide (0x20 ≤ c ∧ c ≤ 0x7E)) .nmeaLeaderEnd) :=
    iteration_expect h (congrArg (s.consume.expect · _) (isPrintable_eq c))
  exact iteration_ite (iteration_go h rfl) <| iteration_ite (iteration_recog (r := .nmea) h rfl) <|
    iteration_ite (iteration_pushGround h rfl) htext

/-- `NMEA_RECOGNIZED` (`41_text_chains.md` R186) as a test of one leader: the one the byte can be. -/
theorem nextNmeaRecognized_eq (c : Byte) (v : State) :
    nextNmeaRecognized c v =
      if c = 0x24 then v.expect (v.cfg.chainEn.getLsbD 1) .nmeaDollar
      else v.expect (c == 0x21 && v.cfg.chainEn.getLsbD 2) .nmeaBang := by
  by_cases hc : c = 0x24
  · subst hc
    simp [nextNmeaRecognized, State.expect]
  · rw [if_neg hc, nextNmeaRecognized, if_neg fun h => hc h.1]
    simp [State.expect]

/-- Each of the two leaders leads on only with its chain enabled (`41_text_chains.md` R186). -/
theorem iteration_nmeaRecognized (h : s.Ready) :
    iteration (nextNmeaRecognized c) s =
      .next (if c = 0x24 then s.afterTest (s.cfg.chainEn.getLsbD 1) .nmeaDollar
        else s.afterTest (c == 0x21 && s.cfg.chainEn.getLsbD 2) .nmeaBang) := by
  have hrule := nextNmeaRecognized_eq c s.consume
  split
  · next hc => exact iteration_expect h (hrule.trans (if_pos hc))
  · next hc => exact iteration_expect h (hrule.trans (if_neg hc))

end

/-- Settles O23: the ten leaders' rows are read off the dispatch map, each with its bit of `CFG.CHAIN_EN` set. -/
theorem groundLeadersEnterChains : Obligations.GroundLeadersEnterChains := by
  intro s h
  refine ⟨fun p hp hb => ?_, fun hb => exec_groundRows_next rfl (iteration_depth h (if_pos hb))⟩
  simp only [List.mem_cons, List.not_mem_nil, or_false] at hp
  rcases hp with rfl | rfl | rfl | rfl | rfl | rfl | rfl | rfl | rfl <;>
    exact exec_groundRows_next rfl (iteration_go h (if_pos hb))

/-- Settles O27: the line feed ends the comment, and both states test every other byte. -/
theorem commentChain : Obligations.CommentChain := by
  intro s c h
  obtain ⟨hlead, hother⟩ := iteration_expect_iff (rule := nextCommentRecognized c) (P := c = 0x23) h rfl beq_iff_eq
  refine ⟨?_, fun hc => ?_, fun hlf hcr htab hprint => ?_, hlead, hother⟩
  · rintro rfl
    exact iteration_recog (r := .comment) (rule := nextCommentBody 0x0A) h rfl
  · have hlf : c ≠ 0x0A := by
      rintro rfl
      exact absurd hc (by decide)
    exact (iteration_commentBody h hlf).1 hc
  · exact (iteration_commentBody h hlf).2 (by simp only [hcr, htab, hprint, or_self, not_false_eq_true])

/-- Settles O28: the eleven letters are read off the dispatch map. -/
theorem talkerDispatch : Obligations.TalkerDispatch := by
  intro s h
  refine ⟨fun p hp => ?_, fun c => iteration_pushGround h rfl,
    fun c hc => iteration_pushGround h (nextNmeaDollar_other hc _)⟩
  simp only [List.mem_cons, List.not_mem_nil, or_false] at hp
  rcases hp with rfl | rfl | rfl | rfl | rfl | rfl | rfl | rfl | rfl | rfl | rfl <;> exact exec_talkerRows_go h rfl rfl

/-- Settles O29: the table states are leader tests, and past its letter a state of `PASHR` has the rule of
`NMEA_LEADER_END`. -/
theorem addressStates : Obligations.AddressStates := by
  intro s c h
  have hupper : iteration (fun v => v.expect (isUpper c) .nmeaLeaderEnd) s =
      .next (s.afterTest (decide (0x41 ≤ c ∧ c ≤ 0x5A)) .nmeaLeaderEnd) :=
    iteration_expect h (congrArg (s.consume.expect · _) (isUpper_eq c))
  have hvendor : iteration (nextNmeaVendorLead c) s =
      .next (if c = 0x41 then s.afterGo .nmeaPashrA
        else s.afterTest (decide (0x41 ≤ c ∧ c ≤ 0x5A)) .nmeaLeaderEnd) := iteration_ite (iteration_go h rfl) hupper
  obtain ⟨hbang, hnoBang⟩ := iteration_expect_iff (rule := nextNmeaBang c) (P := ∃ p ∈ s.cfg.aisPrefix, p.1 = c) h rfl
    (by simp)
  obtain ⟨hais, hnoAis⟩ := iteration_expect_iff (rule := nextAisLead1 c) h rfl
    (aisPair_iff s.cfg.aisPrefix (s.inByte 1) c)
  refine ⟨fun p hp => ?_, hvendor, iteration_go h rfl,
    fun hc => iteration_congr (if_neg hc), iteration_go h rfl, fun hc => iteration_congr (if_neg hc),
    iteration_go h rfl, fun hc => iteration_congr (if_neg hc), hbang, hnoBang, hais, hnoAis⟩
  simp only [List.mem_cons, List.not_mem_nil, or_false] at hp
  rcases hp with rfl | rfl | rfl | rfl | rfl | rfl | rfl | rfl | rfl | rfl <;> exact iteration_nmeaLead h _

/-- Settles O30: each row is the case distinction its rule makes; `NMEA_BINARY_CR` on any byte but the line feed does what
`NMEA_BINARY_BODY` does. -/
theorem nmeaBodyStates : Obligations.NmeaBodyStates := by
  intro s c h
  have hbinary : iteration (nextNmeaBinaryBody c) s =
      .next (s.afterGo (if c = 0x0D then .nmeaBinaryCr else .nmeaBinaryBody)) :=
    iteration_go h (apply_ite (fun q => s.consume.plain (.go q)) ..).symm
  have hrecog : iteration (fun v => v.plain (.recog .nmea)) s =
      .next (s.afterVerdict .nmeaRecognized (validateNmea s.cfg s.nextCandidate)) := iteration_recog (r := .nmea) h rfl
  have hcr : iteration (nextNmeaCr c) s =
      .next (if c = 0x0A then s.afterVerdict .nmeaRecognized (validateNmea s.cfg s.nextCandidate)
        else s.afterPushGround) := iteration_ite hrecog (iteration_pushGround h rfl)
  exact ⟨hbinary, iteration_ite hrecog hbinary, iteration_nmeaBody h, hcr,
    iteration_nmeaRecognized h⟩

end Sys2Proof.Machine
end

section
/-! PROOFS. The validation of the text candidates: the stripped sentence, the form with a checksum, and the comparison. -/

namespace Sys2Proof.Machine

section
variable {sent eol : List Byte}

/-! ## The stripped candidate -/

/-- The trailing run of line ends is stripped, and nothing before it (`41_text_chains.md` R176, R187). -/
theorem strippedLength_append_eol (he : ∀ c ∈ eol, c = 0x0D ∨ c = 0x0A)
    (hs : ∀ c ∈ sent.getLast?, c ≠ 0x0D ∧ c ≠ 0x0A) : strippedLength (sent ++ eol) = sent.length := by
  have heol : eol.all isLineEnd = true := List.all_eq_true.2 fun c hc => by simpa [isLineEnd] using he c hc
  rcases List.eq_nil_or_concat' sent with rfl | ⟨v, c, rfl⟩
  · have hnone : eol.reverse.dropWhile isLineEnd = [] :=
      List.dropWhile_eq_nil_iff.2 fun c hc => List.all_eq_true.1 heol c (List.mem_reverse.1 hc)
    rw [List.nil_append, strippedLength, hnone]
  · have hc : isLineEnd c = false := by simpa [isLineEnd] using hs c (by simp)
    exact strippedLength_append hc heol

/-! ## The sentences that carry a checksum -/

/-- The `*` stands three bytes before the end of a sentence, after its leader (`41_text_chains.md` R188). -/
theorem starred_iff (sent : List Byte) :
    (∃ lead span h l, sent = lead :: span ++ [0x2A, h, l]) ↔
      4 ≤ sent.length ∧ sent[sent.length - 3]? = some 0x2A := by
  constructor
  · rintro ⟨lead, span, h, l, rfl⟩
    simp
  · rintro ⟨hlen, hstar⟩
    obtain ⟨lead, span, hhead⟩ := List.exists_cons_of_length_pos (l := sent.take (sent.length - 3)) (by simp; omega)
    obtain ⟨x, h, l, htrailer⟩ := List.length_eq_three.1
      (show (sent.drop (sent.length - 3)).length = 3 by simp; omega)
    have hx : x = 0x2A := by
      rw [← Nat.add_zero (_ - 3), ← List.getElem?_drop, htrailer] at hstar
      exact Option.some.inj hstar
    exact ⟨lead, span, h, l, by rw [← hx, ← hhead, ← htrailer, List.take_append_drop]⟩

/-- What the comparison of a sentence with a checksum looks at: the digits, and the span between leader and `*`. -/
theorem starred_cut (lead : Byte) (span : List Byte) (h l : Byte) :
    (lead :: span ++ [0x2A, h, l]).drop ((lead :: span ++ [0x2A, h, l]).length - 2) = [h, l] ∧
      ((lead :: span ++ [0x2A, h, l]).take ((lead :: span ++ [0x2A, h, l]).length - 3)).drop 1 = span := by
  obtain ⟨hspan, -⟩ := cut_trailer (k := 3) (head := lead :: span) (trailer := [0x2A, h, l]) rfl
  obtain ⟨-, hdigits⟩ := cut_trailer (k := 2) (head := lead :: span ++ [0x2A]) (trailer := [h, l]) rfl
  rw [List.append_assoc] at hdigits
  exact ⟨hdigits, by rw [hspan]; rfl⟩

/-! ## The validation pass -/

/-- The type of a sentence, by its leader (`41_text_chains.md` R187). -/
def sentenceType (cand : List Byte) : PacketType := if cand.head? = some 0x21 then .ais else .nmea

/-- The validation of a sentence in terms of what is left of it without its line end (`41_text_chains.md` R187). -/
theorem validateNmea_stripped (cfg : Config) (hlen : strippedLength (sent ++ eol) = sent.length) :
    validateNmea cfg (sent ++ eol) =
      if ∃ p ∈ cfg.nmeaExempt, p <+: sent then .accept (sentenceType (sent ++ eol)) sent.length
      else if 4 ≤ sent.length ∧ sent[sent.length - 3]? = some 0x2A then
        if sent.drop (sent.length - 2) = hexPair (xor8 ((sent.take (sent.length - 3)).drop 1)) then
          .accept (sentenceType (sent ++ eol)) sent.length
        else .bad
      else .accept (sentenceType (sent ++ eol)) sent.length := by
  simp only [validateNmea, hlen, List.take_left, List.any_eq_true, List.isPrefixOf_iff_prefix]
  rfl

end

/-- Settles O31: the three cases are the branches of the validation on the stripped sentence. -/
theorem textValidations : Obligations.TextValidations := by
  intro cfg sent eol he hs
  have hlen := strippedLength_append_eol he hs
  have hnmea := validateNmea_stripped cfg hlen
  refine ⟨congrArg _ hlen, fun hex => hnmea.trans (if_pos hex), fun hex lead span h l hsent => ?_,
    fun hex hform => ?_⟩
  · rw [hnmea, if_neg hex, if_pos ((starred_iff sent).1 ⟨lead, span, h, l, hsent⟩)]
    obtain ⟨hdigits, hspan⟩ := starred_cut lead span h l
    rw [← hsent] at hdigits hspan
    simp only [hdigits, hspan, hexPair, List.cons.injEq, and_true]
    rfl
  · exact hnmea.trans ((if_neg hex).trans (if_neg (mt (starred_iff sent).2 hform)))

end Sys2Proof.Machine
end

section
/-! PROOFS. The JSON chain (`41_text_chains.md` R194 to R198): what each row does on every byte. -/

namespace Sys2Proof.Machine

section
variable {s : State} {c : Byte}

/-! ## The body -/

/-- The bytes that begin a value (`41_text_chains.md` R194). -/
theorem jsonValueStart_iff (c : Byte) :
    (c == 0x2D || isDigit c || c == 0x74 || c == 0x66 || c == 0x6E) = true ↔
      c = 0x2D ∨ (0x30 ≤ c ∧ c ≤ 0x39) ∨ c ∈ [(0x74 : Byte), 0x66, 0x6E] := by
  simp [isDigit_iff, or_assoc]

/-- The bytes `JSON_BODY` names before the starts of a value: brackets, the quote and the blanks
(`41_text_chains.md` R194). -/
def jsonPunctuation : List Byte := [0x7B, 0x5B, 0x7D, 0x5D, 0x22, 0x20, 0x09, 0x0A, 0x0D, 0x2C, 0x3A]

/-- Any other byte is tested for the start of a value. -/
theorem nextJsonBody_other (hc : c ∉ jsonPunctuation) (v : State) :
    nextJsonBody c v = v.expect (c == 0x2D || isDigit c || c == 0x74 || c == 0x66 || c == 0x6E) .jsonValue := by
  simp only [jsonPunctuation, List.mem_cons, List.not_mem_nil, or_false, not_or] at hc
  simp only [nextJsonBody, hc, or_self, if_false]

theorem not_mem_jsonPunctuation (hc : c = 0x2D ∨ (0x30 ≤ c ∧ c ≤ 0x39) ∨ c ∈ [(0x74 : Byte), 0x66, 0x6E]) :
    c ∉ jsonPunctuation := by
  revert c
  decide

/-- A byte that is no punctuation begins a value or is pushed back (`41_text_chains.md` R194). -/
theorem iteration_jsonBody_other (h : s.Ready) (hc : c ∉ jsonPunctuation) :
    (c = 0x2D ∨ (0x30 ≤ c ∧ c ≤ 0x39) ∨ c ∈ [(0x74 : Byte), 0x66, 0x6E] →
      iteration (nextJsonBody c) s = .next (s.afterGo .jsonValue)) ∧
    (¬(c = 0x2D ∨ (0x30 ≤ c ∧ c ≤ 0x39) ∨ c ∈ [(0x74 : Byte), 0x66, 0x6E]) →
      iteration (nextJsonBody c) s = .next s.afterPushGround) :=
  iteration_expect_iff h (nextJsonBody_other hc _) (jsonValueStart_iff c)

/-- A closing bracket ends the document at depth 0 (`41_text_chains.md` R194, R198), whole. -/
theorem iteration_jsonClose (h : s.Ready) (hc : c = 0x7D ∨ c = 0x5D) :
    iteration (nextJsonBody c) s =
      .next (if s.jsonDepth - 1 = 0 then s.afterVerdict .jsonRecognized (.accept .json (s.rp + 1))
        else s.afterDepth (s.jsonDepth - 1) .jsonBody) := by
  have hopen : ¬(c = 0x7B ∨ c = 0x5B) := by rcases hc with rfl | rfl <;> decide
  have hrule : nextJsonBody c s.consume = s.consume.depth (s.jsonDepth - 1)
      (if s.jsonDepth - 1 = 0 then .recog .json else .go .jsonBody) := (if_neg hopen).trans (if_pos hc)
  split
  · next h0 =>
    rw [if_pos h0] at hrule
    rw [iteration_recog h hrule, validate, validateJson, State.nextCandidate_length]
    rfl
  · next h0 =>
    rw [if_neg h0] at hrule
    exact iteration_depth h hrule

/-! ## Strings and values -/

/-- A control character in a string is pushed back (`41_text_chains.md` R195). -/
theorem iteration_jsonString (h : s.Ready) :
    iteration (nextJsonString c) s =
      .next (if c = 0x5C then s.afterGo .jsonEscape else if c = 0x22 then s.afterGo .jsonBody
        else if c < 0x20 then s.afterPushGround else s.afterGo .jsonString) := by
  have htext : iteration (fun v => v.expect (decide (0x20 ≤ c)) .jsonString) s =
      .next (if c < 0x20 then s.afterPushGround else s.afterGo .jsonString) := by
    rw [iteration_expect h rfl, State.afterTest]
    simp only [decide_eq_true_eq, ← BitVec.not_lt, ite_not]
  exact iteration_ite (iteration_go h rfl) <| iteration_ite (iteration_go h rfl) htext

/-- The bytes a value goes on with (`41_text_chains.md` R197). -/
theorem jsonValueByte_iff (c : Byte) :
    (isDigit c || c == 0x2E || c == 0x65 || c == 0x45 || c == 0x2B || c == 0x2D || isLower c) = true ↔
      (0x30 ≤ c ∧ c ≤ 0x39) ∨ c ∈ [(0x2E : Byte), 0x65, 0x45, 0x2B, 0x2D] ∨ (0x61 ≤ c ∧ c ≤ 0x7A) := by
  simp [isDigit_iff, isLower_iff, or_assoc]

/-- A value ends at the byte that does not continue it, which `JSON_BODY` sees again (`41_text_chains.md` R197). -/
theorem iteration_jsonValue (h : s.Ready) :
    iteration (nextJsonValue c) s =
      .next (if (0x30 ≤ c ∧ c ≤ 0x39) ∨ c ∈ [(0x2E : Byte), 0x65, 0x45, 0x2B, 0x2D] ∨ (0x61 ≤ c ∧ c ≤ 0x7A)
        then s.afterGo .jsonValue else s.goto .jsonBody) := by
  simp only [← jsonValueByte_iff]
  exact iteration_ite (iteration_go h rfl) (iteration_push (by decide) h rfl)

end

/-- Settles O32: the bytes the body names are read off its rule, and the others are tested for the start of a value. -/
theorem jsonChain : Obligations.JsonChain := by
  intro s c h
  have hrecognized : iteration (nextJsonRecognized c) s =
      .next (if c = 0x7B then s.afterDepth 1 .jsonBody else s.afterPushGround) :=
    iteration_ite (iteration_depth h rfl) (iteration_pushGround h rfl)
  refine ⟨fun hc => iteration_depth h (if_pos hc), iteration_jsonClose h, ?_, fun hc => ?_,
    fun hc => (iteration_jsonBody_other h (not_mem_jsonPunctuation hc)).1 hc, fun hc hdigit => ?_,
    iteration_jsonString h, iteration_go h rfl, iteration_jsonValue h, hrecognized⟩
  · rintro rfl
    exact iteration_go h rfl
  · simp only [List.mem_cons, List.not_mem_nil, or_false] at hc
    rcases hc with rfl | rfl | rfl | rfl | rfl | rfl <;> exact iteration_go h rfl
  · have hpunct : c ∉ jsonPunctuation := fun hm => hc (List.mem_append_left [0x2D, 0x74, 0x66, 0x6E] hm)
    refine (iteration_jsonBody_other h hpunct).2 ?_
    rintro (rfl | hd | hm)
    · exact hc (by decide)
    · exact hdigit hd
    · exact hc (List.mem_append_right (jsonPunctuation ++ [0x2D]) hm)

end Sys2Proof.Machine
end

section
/-! PROOFS. The rows of the binary chains (`42_binary_chains.md` R231 to R291): what each row does on every byte. -/

namespace Sys2Proof.Machine

section
variable {s t : State} {rule f : State → Trans} {q : LexState} {c : Byte} {len ovh p : Nat}

/-! ## The capacity test -/

/-- A length state that answers `Cap` on a declared length over the maximum and goes by a rule of its own otherwise
(`40_lexer_core.md` R152). -/
theorem iteration_capacity (h : s.Ready) (hr : rule s.consume =
      if s.consume.overLength ovh len then s.consume.load p .cap else f s.consume)
    (hf : iteration f s = .next t) :
    iteration rule s = .next (if s.cfg.maxPacketLength < len + ovh then s.afterCap else t) := by
  by_cases hover : s.cfg.maxPacketLength < len + ovh
  · have htest : s.consume.overLength ovh len = true := decide_eq_true hover
    rw [if_pos hover]
    exact iteration_cap h (hr.trans (if_pos htest))
  · have htest : ¬s.consume.overLength ovh len = true := fun h => hover (of_decide_eq_true h)
    rw [if_neg hover, ← hf]
    exact iteration_congr (hr.trans (if_neg htest))

/-- A length state that loads `pending` with the declared length and tests nothing but the capacity. -/
theorem iteration_length (h : s.Ready) (hr : rule s.consume =
      s.consume.load len (if s.consume.overLength ovh len then .cap else .go q)) :
    iteration rule s =
      .next (if s.cfg.maxPacketLength < len + ovh then s.afterCap else s.afterLoad len q) :=
  iteration_capacity (f := fun v => v.load len (.go q)) h (hr.trans (apply_ite ..)) (iteration_load h rfl)

/-- `CASIC_LENGTH_1` (`42_binary_chains.md` R253): past the capacity test, a length that is no multiple of 4 is pushed
back. -/
theorem iteration_casicLength1 (h : s.Ready) :
    iteration (nextCasicLength1 c) s =
      .next (if s.cfg.maxPacketLength < s.pending + 256 * c.toNat + 10 then s.afterCap
        else if (s.pending + 256 * c.toNat) % 4 ≠ 0 then s.afterPushGround
        else s.afterLoad (s.pending + 256 * c.toNat) .casicLength2) := by
  have hpush : iteration (fun v => v.plain (.push .groundState)) s = .next s.afterPushGround :=
    iteration_pushGround h rfl
  have hload : iteration (fun v => v.load (le16Length v.pending c) (.go .casicLength2)) s =
      .next (s.afterLoad (s.pending + 256 * c.toNat) .casicLength2) := iteration_load h rfl
  exact iteration_capacity h rfl (iteration_ite hpush hload)

/-! ## GREIS -/

/-- Only the digit characters are uppercase hex digits (`30_encoding.md` R108). -/
theorem exists_hexChar : ∀ c : Byte, isHexUpper c = true → ∃ d < 16, c = hexChar d := by decide

theorem not_isHexUpper (hc : ∀ d, d < 16 → c ≠ hexChar d) : ¬isHexUpper c = true := fun hx => by
  obtain ⟨d, hd, he⟩ := exists_hexChar c hx
  exact hc d hd he

theorem isGreisId_eq (c : Byte) : isGreisId c = decide (0x30 ≤ c ∧ c ≤ 0x7E) := (Bool.decide_and ..).symm

/-- `GREIS_LENGTH_2` (`42_binary_chains.md` R280) on a digit: the capacity test, and an empty body is complete. -/
theorem iteration_greisLength2 {d : Nat} (hd : d < 16) (h : s.Ready) :
    iteration (nextGreisLength2 (hexChar d)) s =
      .next (if s.cfg.maxPacketLength < s.pending + d + 5 then s.afterCap
        else if s.pending + d = 0 then s.afterVerdict .greisRecognized (validateGreis s.nextCandidate)
        else s.afterLoad (s.pending + d) .greisLength3) := by
  obtain ⟨hdigit, hval⟩ := hexChar_digit hd
  have hrule : nextGreisLength2 (hexChar d) s.consume = s.consume.load (s.pending + d)
      (if s.consume.overLength 5 (s.pending + d) then .cap
        else if s.pending + d = 0 then .recog .greis else .go .greisLength3) := by
    rw [nextGreisLength2, if_pos hdigit, hval]
    rfl
  have hempty : iteration (fun v => v.load (s.pending + d) (.recog .greis)) s =
      .next (s.afterVerdict .greisRecognized (validateGreis s.nextCandidate)) := iteration_recog (r := .greis) h rfl
  have hbody : iteration (fun v => v.load (s.pending + d) (.go .greisLength3)) s =
      .next (s.afterLoad (s.pending + d) .greisLength3) := iteration_load h rfl
  have hfits : iteration (fun v => v.load (s.pending + d)
        (if s.pending + d = 0 then .recog .greis else .go .greisLength3)) s =
      .next (if s.pending + d = 0 then s.afterVerdict .greisRecognized (validateGreis s.nextCandidate)
        else s.afterLoad (s.pending + d) .greisLength3) :=
    (iteration_congr (apply_ite ..)).trans (iteration_ite hempty hbody)
  exact iteration_capacity h (hrule.trans (apply_ite ..)) hfits

/-- The GREIS countdown (`42_binary_chains.md` R282): the guard, the byte that completes the frame, and a byte before
it. -/
theorem iteration_greisCountdown (h : s.Ready) (hr : rule s.consume = greisCountdown s.consume) :
    iteration rule s =
      .next (if s.pending = 0 then s.afterPushGround
        else if s.pending = 1 then s.afterVerdict .greisRecognized (validateGreis s.nextCandidate)
        else s.afterLoad (s.pending - 1) .greisPayload) := by
  have hpending : s.consume.pending = s.pending := rfl
  rw [greisCountdown, hpending] at hr
  by_cases h0 : s.pending = 0
  · rw [if_pos h0] at hr ⊢
    exact iteration_pushGround h hr
  · by_cases h1 : s.pending = 1
    · rw [if_neg h0, if_pos (by omega)] at hr
      rw [if_neg h0, if_pos h1]
      exact iteration_recog (r := .greis) h hr
    · rw [if_neg h0, if_neg (by omega)] at hr
      rw [if_neg h0, if_neg h1]
      exact iteration_load h hr

/-- `GREIS_RECOGNIZED` (`42_binary_chains.md` R283): separators are dropped, and of the bytes of a message ID the brace,
which opens a JSON document, is handed over. -/
theorem iteration_greisRecognized (h : s.Ready) :
    iteration (nextGreisRecognized c) s =
      .next (if c = 0x0D ∨ c = 0x0A then s.afterDrop .greisRecognized
        else s.afterTest (decide (0x30 ≤ c ∧ c ≤ 0x7E ∧ c ≠ 0x7B)) .greisId1) := by
  have hid : iteration (fun v => if c = 0x7B then v.plain (.push .groundState) else v.expect (isGreisId c) .greisId1) s =
      .next (s.afterTest (decide (0x30 ≤ c ∧ c ≤ 0x7E ∧ c ≠ 0x7B)) .greisId1) := by
    refine iteration_expect h ?_
    by_cases hc : c = 0x7B
    · subst hc
      rfl
    · rw [if_neg hc, isGreisId_eq]
      simp only [ne_eq, hc, not_false_eq_true, and_true]
  exact iteration_ite (iteration_drop h rfl) hid

/-! ## RTCM3 -/

/-- The two low bits of a byte (`42_binary_chains.md` R285). -/
theorem and_three_toNat (c : Byte) : (c &&& 0x03).toNat = c.toNat % 4 :=
  (BitVec.toNat_and ..).trans (Nat.and_two_pow_sub_one_eq_mod c.toNat 2)

end

/-- Settles O33: each row is an action, a test, a length or a countdown of `40_lexer_core.md`. -/
theorem ubxChain : Obligations.UbxChain := by
  intro s c h
  exact ⟨iteration_expect h rfl, iteration_go h rfl, iteration_go h rfl, iteration_load h rfl, iteration_length h rfl,
    iteration_countdown h rfl, iteration_countdown h rfl, iteration_recog (r := .ubx) h rfl, iteration_expect h rfl⟩

/-- Settles O34: the rows have the shapes of the UBX rows. -/
theorem allystarChain : Obligations.AllystarChain := by
  intro s c h
  exact ⟨iteration_expect h rfl, iteration_go h rfl, iteration_go h rfl, iteration_load h rfl, iteration_length h rfl,
    iteration_countdown h rfl, iteration_countdown h rfl, iteration_recog (r := .allystar) h rfl,
    iteration_expect h rfl⟩

/-- Settles O35: the length is the one row with two tests. -/
theorem casicChain : Obligations.CasicChain := by
  intro s c h
  exact ⟨iteration_expect h rfl, iteration_load h rfl, iteration_casicLength1 h, iteration_go h rfl, iteration_go h rfl,
    iteration_countdown h rfl, iteration_countdown h rfl, iteration_go h rfl, iteration_go h rfl,
    iteration_recog (r := .casic) h rfl, iteration_expect h rfl⟩

/-- Settles O36: the length loaded and tested is the count of words times 4. -/
theorem geostarHeader : Obligations.GeostarHeader := by
  intro s c h
  exact ⟨iteration_expect h rfl, iteration_expect h rfl, iteration_expect h rfl, iteration_go h rfl, iteration_go h rfl,
    iteration_load h rfl, iteration_length h rfl⟩

/-- Settles O37: the payload is counted down in bytes, and the last of the four trailer bytes is recognised. -/
theorem geostarPayloadAndTrailer : Obligations.GeostarPayloadAndTrailer := by
  intro s c h
  exact ⟨iteration_countdown h rfl, iteration_countdown h rfl, iteration_go h rfl, iteration_go h rfl,
    iteration_recog (r := .geostar) h rfl, iteration_expect h rfl⟩

/-- Settles O38: the length states on a digit and on any other byte, and the two states of the countdown by its rule. -/
theorem greisChain : Obligations.GreisChain := by
  intro s c h
  refine ⟨iteration_expect h (congrArg (s.consume.expect · _) (isGreisId_eq c)), fun d hd => ?_, fun hc => ?_,
    fun i hi => ?_, iteration_greisRecognized h⟩
  · exact ⟨iteration_load h (nextGreisId2_digit hd _), iteration_load h (nextGreisLength1_digit hd _),
      iteration_greisLength2 hd h⟩
  · have hx := not_isHexUpper hc
    exact ⟨iteration_pushGround h (if_neg hx), iteration_pushGround h (if_neg hx), iteration_pushGround h (if_neg hx)⟩
  · simp only [List.mem_cons, List.not_mem_nil, or_false] at hi
    rcases hi with rfl | rfl <;> exact iteration_greisCountdown h rfl

/-- Settles O39: the leader tests the six reserved bits and keeps the two others. -/
theorem rtcm3Chain : Obligations.Rtcm3Chain := by
  intro s c h
  have hleader : iteration (nextRtcm3Leader1 c) s =
      .next (if c &&& 0xFC ≠ 0 then s.afterPushGround else s.afterLoad (256 * (c.toNat % 4)) .rtcm3Length1) := by
    rw [← and_three_toNat]
    exact iteration_ite (iteration_pushGround h rfl) (iteration_load h rfl)
  exact ⟨hleader, iteration_length h rfl, iteration_countdown h rfl, iteration_countdown h rfl, iteration_go h rfl,
    iteration_recog (r := .rtcm3) h rfl, iteration_expect h rfl⟩

end Sys2Proof.Machine
end

section
/-! PROOFS. The validation passes of the binary chains (`42_binary_chains.md` R240, R250, R262, R276, R284, R292): what
each compares when the candidate is cut into leaders, span and trailer. -/

namespace Sys2Proof.Machine

/-! ## The trailers -/

/-- The four bytes of a word determine it. -/
theorem le32Bytes_inj {k k' : BitVec 32} : le32Bytes k = le32Bytes k' ↔ k = k' := by
  refine ⟨fun h => ?_, congrArg le32Bytes⟩
  have hwords := congrArg le32Words h
  rw [le32Words_le32Bytes, le32Words_le32Bytes] at hwords
  exact List.singleton_inj.1 (Option.some.inj hwords)

/-- The three bytes of a CRC determine it. -/
theorem be24_inj {k k' : BitVec 24} : be24 k = be24 k' ↔ k = k' := by
  refine ⟨fun h => ?_, congrArg be24⟩
  simp only [be24, List.cons.injEq, and_true] at h
  obtain ⟨hhigh, hmid, hlow⟩ := h
  bv_omega

/-! ## The validation passes -/

section
variable (l1 l2 a b : Byte) (span cand : List Byte)

/-- The Fletcher check looks at the span between the two leaders and the trailer (`42_binary_chains.md` R240, R250). -/
theorem fletchMatches_iff :
    fletchMatches (l1 :: l2 :: span ++ [a, b]) = true ↔ (fletch8 span).1 = a ∧ (fletch8 span).2 = b := by
  obtain ⟨hhead, htrailer⟩ := cut_trailer (k := 2) (head := l1 :: l2 :: span) (trailer := [a, b]) rfl
  rw [fletchMatches, hhead, htrailer]
  simp [eq_comm (a := a), eq_comm (a := b)]

/-- CASIC (`42_binary_chains.md` R262). -/
theorem validateCasic_trailer (k : BitVec 32) :
    validateCasic (l1 :: l2 :: span ++ le32Bytes k) =
      if sum32 span = some k then .accept .casic (span.length + 6) else .bad := by
  obtain ⟨hhead, htrailer⟩ := cut_trailer (k := 4) (head := l1 :: l2 :: span) (trailer := le32Bytes k) rfl
  have hlen : (l1 :: l2 :: span ++ le32Bytes k).length = span.length + 6 := by simp [le32Bytes]
  rw [validateCasic, hhead, htrailer, hlen, List.drop_succ_cons, List.drop_succ_cons, List.drop_zero]
  cases sum32 span with
  | none => rfl
  | some sum => simp only [le32Bytes_inj, Option.some.injEq, eq_comm]

/-- The two IDs without a checksum are `RE` and `ER` (`42_binary_chains.md` R284). -/
theorem greisExempt_iff :
    greisExempt (l1 :: l2 :: cand) = true ↔ (l1 = 0x52 ∧ l2 = 0x45) ∨ (l1 = 0x45 ∧ l2 = 0x52) := by
  simp [greisExempt]

/-- GREIS (`42_binary_chains.md` R284): exempt or checked, in one condition. -/
theorem validateGreis_eq :
    validateGreis (l1 :: l2 :: cand) =
      if (l1 = 0x52 ∧ l2 = 0x45) ∨ (l1 = 0x45 ∧ l2 = 0x52) ∨ cs8 (l1 :: l2 :: cand) = 0
        then .accept .greis (cand.length + 2) else .bad := by
  simp only [validateGreis, greisExempt_iff, ← ite_or, or_assoc]
  rfl

/-- RTCM3 (`42_binary_chains.md` R292). -/
theorem validateRtcm3_trailer (k : BitVec 24) :
    validateRtcm3 (cand ++ be24 k) = if crc24q cand = k then .accept .rtcm3 (cand.length + 3) else .bad := by
  obtain ⟨hhead, htrailer⟩ := cut_trailer (k := 3) (head := cand) (trailer := be24 k) rfl
  have hlen : (cand ++ be24 k).length = cand.length + 3 := List.length_append
  rw [validateRtcm3, hhead, htrailer, hlen]
  simp only [be24_inj, eq_comm]

end

/-- Settles O40: the passes of UBX and ALLYSTAR are the Fletcher check, GEOSTAR's stands in its definition. -/
theorem binaryValidations : Obligations.BinaryValidations := by
  intro l1 l2 a b span cand k32 k24
  have hlen : (l1 :: l2 :: span ++ [a, b]).length = span.length + 4 := by simp
  refine ⟨?_, ?_, validateCasic_trailer l1 l2 span k32, rfl, validateGreis_eq l1 l2 cand,
    validateRtcm3_trailer cand k24⟩
  · simp only [validateUbx, fletchMatches_iff, hlen]
  · simp only [validateAllystar, fletchMatches_iff, hlen]

end Sys2Proof.Machine
end

section
/-! PROOFS. The CHK commands (`43_checksum_unit.md` R301 to R307): when they fail, and each algorithm as the loop of its
rule over the bytes or the words. -/

namespace Sys2Proof.Machine

/-! ## The commands -/

/-- An operand denotes no sequence exactly when its range leaves the packet (`30_encoding.md` R91). -/
theorem State.resolve_eq_none_iff (s : State) (src : Src) :
    s.resolve src = none ↔ ∃ off n, src = .out off n ∧ s.outlen < off + n := by
  cases src <;> simp [State.resolve]

section
variable {s : State} {src : Src} {v : List Byte}

theorem exec_chkXor8 (h : s.resolve src = some v) :
    exec (.chkXor8 src) s = .next (s.withResult (.chk8 (xor8 v) true)) :=
  congrArg (fun o : Option (List Byte) => Host.Outcome.next (s.withResult (chk8Result (o.map xor8)))) h

theorem exec_chkCs8 (h : s.resolve src = some v) :
    exec (.chkCs8 src) s = .next (s.withResult (.chk8 (cs8 v) true)) :=
  congrArg (fun o : Option (List Byte) => Host.Outcome.next (s.withResult (chk8Result (o.map cs8)))) h

theorem exec_chkFletch8 (h : s.resolve src = some v) :
    exec (.chkFletch8 src) s = .next (s.withResult (.chkPair (fletch8 v).1 (fletch8 v).2 true)) :=
  congrArg (fun o : Option (List Byte) => Host.Outcome.next (s.withResult (chkPairResult (o.map fletch8)))) h

theorem exec_chkSum32 (h : s.resolve src = some v) :
    exec (.chkSum32 src) s = .next (s.withResult (chk32Result (sum32 v))) :=
  congrArg (fun o : Option (List Byte) => Host.Outcome.next (s.withResult (chk32Result (o.bind sum32)))) h

theorem exec_chkXor32 (h : s.resolve src = some v) :
    exec (.chkXor32 src) s = .next (s.withResult (chk32Result (xor32 v))) :=
  congrArg (fun o : Option (List Byte) => Host.Outcome.next (s.withResult (chk32Result (o.bind xor32)))) h

theorem exec_chkCrc24q (h : s.resolve src = some v) :
    exec (.chkCrc24q src) s = .next (s.withResult (.chk24 (crc24q v) true)) :=
  congrArg (fun o : Option (List Byte) => Host.Outcome.next (s.withResult (chk24Result (o.map crc24q)))) h

/-- Every CHK command on an operand that denotes no sequence (`43_checksum_unit.md` R301). -/
theorem exec_chk_unresolved (h : s.resolve src = none) :
    exec (.chkXor8 src) s = .next (s.withResult (.chk8 0 false)) ∧
      exec (.chkCs8 src) s = .next (s.withResult (.chk8 0 false)) ∧
      exec (.chkFletch8 src) s = .next (s.withResult (.chkPair 0 0 false)) ∧
      exec (.chkSum32 src) s = .next (s.withResult (.chk32 0 false)) ∧
      exec (.chkXor32 src) s = .next (s.withResult (.chk32 0 false)) ∧
      exec (.chkCrc24q src) s = .next (s.withResult (.chk24 0 false)) := by
  change execChkXor8 src s = _ ∧ execChkCs8 src s = _ ∧ execChkFletch8 src s = _ ∧ execChkSum32 src s = _ ∧
    execChkXor32 src s = _ ∧ execChkCrc24q src s = _
  rw [execChkXor8, execChkCs8, execChkFletch8, execChkSum32, execChkXor32, execChkCrc24q, h]
  exact ⟨rfl, rfl, rfl, rfl, rfl, rfl⟩

/-- The word-wise commands on a sequence that is not of whole words (`43_checksum_unit.md` R305, R306). -/
theorem exec_chk_ragged (h : s.resolve src = some v) (h4 : v.length % 4 ≠ 0) :
    exec (.chkSum32 src) s = .next (s.withResult (.chk32 0 false)) ∧
      exec (.chkXor32 src) s = .next (s.withResult (.chk32 0 false)) := by
  have hnone : le32Words v = none := by
    rw [← Option.not_isSome_iff_eq_none, le32Words_isSome, decide_eq_true_iff]
    exact h4
  rw [exec_chkSum32 h, exec_chkXor32 h, sum32, xor32, hnone]
  exact ⟨rfl, rfl⟩

end

/-- Settles O41: an operand that denotes no sequence fails every command, a sequence that is not of whole words the two
word-wise ones. -/
theorem chkFailures : Obligations.ChkFailures := by
  intro s src
  refine ⟨s.resolve_eq_none_iff src, exec_chk_unresolved, fun _ => exec_chk_ragged, fun v hv => ⟨⟨_, exec_chkXor8 hv⟩,
    ⟨_, exec_chkCs8 hv⟩, ⟨_, _, exec_chkFletch8 hv⟩, ⟨_, exec_chkCrc24q hv⟩, fun h4 => ?_⟩⟩
  obtain ⟨sum, hsum⟩ := Option.isSome_iff_exists.1 (sum32_isSome h4)
  obtain ⟨x, hx⟩ := Option.isSome_iff_exists.1 (xor32_isSome h4)
  rw [exec_chkSum32 hv, exec_chkXor32 hv, hsum, hx]
  exact ⟨⟨sum, rfl⟩, ⟨x, rfl⟩⟩

/-! ## The byte-wise algorithms -/

/-- `CS8` with the library's rotation (`43_checksum_unit.md` R303). -/
theorem cs8_eq_rotateLeft (v : List Byte) :
    cs8 v = (v.foldl (fun r b => r.rotateLeft 2 ^^^ b) (0 : BitVec 8)).rotateLeft 2 := rfl

/-- One round of the Fletcher loop over naturals (`43_checksum_unit.md` R304). -/
def fletcherRound (p : Nat × Nat) (x : Byte) : Nat × Nat :=
  ((p.1 + x.toNat) % 256, (p.2 + (p.1 + x.toNat) % 256) % 256)

/-- The accumulators of `FLETCH8` are those of the loop over naturals. -/
theorem fletch8_eq_foldl (v : List Byte) :
    fletch8 v = (BitVec.ofNat 8 (v.foldl fletcherRound (0, 0)).1, BitVec.ofNat 8 (v.foldl fletcherRound (0, 0)).2) := by
  refine List.foldl_hom (fun p : Nat × Nat => (BitVec.ofNat 8 p.1, BitVec.ofNat 8 p.2)) (init := (0, 0)) fun p x => ?_
  refine Prod.ext ?_ ?_ <;> refine BitVec.eq_of_toNat_eq ?_ <;>
    simp only [fletcherRound, BitVec.toNat_add, BitVec.toNat_ofNat] <;> omega

/-- Settles O43: the loops of XOR8 and CS8 are the model's own, the Fletcher loop is taken to naturals. -/
theorem chkByteAlgorithms : Obligations.ChkByteAlgorithms := by
  intro s src v hv
  refine ⟨rfl, rfl, rfl, exec_chkXor8 hv, cs8_eq_rotateLeft v ▸ exec_chkCs8 hv, ?_⟩
  rw [exec_chkFletch8 hv, fletch8_eq_foldl]
  rfl

/-! ## The word-wise algorithms -/

/-- Word `j` of a sequence, least significant byte first (`43_checksum_unit.md` R305). -/
def wordAt (v : List Byte) (j : Nat) : Nat :=
  (v.getD (4 * j) 0).toNat + 256 * (v.getD (4 * j + 1) 0).toNat +
    65536 * (v.getD (4 * j + 2) 0).toNat + 16777216 * (v.getD (4 * j + 3) 0).toNat

/-- `le32` by its base-256 digits (`00_scope.md` R15). -/
theorem le32_eq_ofNat (b0 b1 b2 b3 : Byte) :
    le32 b0 b1 b2 b3 = BitVec.ofNat 32 (b0.toNat + 256 * b1.toNat + 65536 * b2.toNat + 16777216 * b3.toNat) := by
  refine BitVec.eq_of_toNat_eq ?_
  have h3 := BitVec.toNat_append b3 b2
  have h2 := BitVec.toNat_append (b3 ++ b2) b1
  have h1 := BitVec.toNat_append (b3 ++ b2 ++ b1) b0
  rw [← Nat.shiftLeft_add_eq_or_of_lt (BitVec.isLt _), Nat.shiftLeft_eq] at h1 h2 h3
  change (b3 ++ b2 ++ b1 ++ b0).toNat = _
  rw [h1, h2, h3, BitVec.toNat_ofNat]
  omega

/-- The words a sequence is cut into are its `m / 4` words (`20_memory.md` R67). -/
theorem le32Words_eq_map : ∀ {v : List Byte}, v.length % 4 = 0 →
    le32Words v = some ((List.range (v.length / 4)).map fun j => BitVec.ofNat 32 (wordAt v j))
  | [], _ => rfl
  | [_], h | [_, _], h | [_, _, _], h => by simp at h
  | b0 :: b1 :: b2 :: b3 :: rest, h => by
    have hrest : rest.length % 4 = 0 := by simp only [List.length_cons] at h; omega
    have hlen : (b0 :: b1 :: b2 :: b3 :: rest).length / 4 = rest.length / 4 + 1 := by
      simp only [List.length_cons]; omega
    rw [le32Words, le32Words_eq_map hrest, hlen, List.range_succ_eq_map, List.map_cons, List.map_map, le32_eq_ofNat]
    rfl

theorem sum32_eq_foldl {v : List Byte} (h : v.length % 4 = 0) :
    sum32 v = some (BitVec.ofNat 32 ((List.range (v.length / 4)).foldl (fun t j => (t + wordAt v j) % 2 ^ 32) 0)) := by
  rw [sum32, le32Words_eq_map h, Option.map_some, List.foldl_map]
  refine congrArg some (List.foldl_hom (BitVec.ofNat 32) (init := 0) fun t j => BitVec.eq_of_toNat_eq ?_)
  simp

theorem xor32_eq_foldl {v : List Byte} (h : v.length % 4 = 0) :
    xor32 v = some (BitVec.ofNat 32 ((List.range (v.length / 4)).foldl (fun x j => x ^^^ wordAt v j) 0)) := by
  rw [xor32, le32Words_eq_map h, Option.map_some, List.foldl_map]
  exact congrArg some (List.foldl_hom (BitVec.ofNat 32) (init := 0) fun _ _ => BitVec.ofNat_xor.symm)

/-- Settles O44: the words are those of the loops, and the failing lengths are those of O41. -/
theorem chkWordAlgorithms : Obligations.ChkWordAlgorithms := by
  intro s src v hv
  refine ⟨rfl, rfl, fun h4 => ⟨?_, ?_⟩, exec_chk_ragged hv⟩
  · rw [exec_chkSum32 hv, sum32_eq_foldl h4]
    rfl
  · rw [exec_chkXor32 hv, xor32_eq_foldl h4]
    rfl

/-! ## CRC-24Q -/

/-- One bit of the CRC-24Q division on the 24-bit register, the bit shifted out tested beforehand: the form the laws are
proved on. -/
def crcShift (c : BitVec 24) : BitVec 24 := if c.msb then c <<< 1 ^^^ 0x864CFB else c <<< 1

/-- One byte of the division on the 24-bit register. -/
def crcStep (c : BitVec 24) (b : Byte) : BitVec 24 := crcShift^[8] (c ^^^ b.setWidth 24 <<< 16)

/-- The model's 25-bit register shifts as the 24-bit one. -/
theorem crcShift_setWidth : Function.Semiconj (BitVec.setWidth 24) crc24qBit crcShift := by
  intro c
  have hbit : (c <<< 1).getLsbD 24 = (c.setWidth 24).msb := by simp [BitVec.msb_eq_getLsbD_last]
  have hshift : (c <<< 1).setWidth 24 = c.setWidth 24 <<< 1 := by
    ext i hi
    simp
  simp only [crc24qBit, crcShift, hbit]
  split
  · rw [BitVec.setWidth_xor, hshift]
    rfl
  · exact hshift

/-- `CRC24Q` on the 24-bit register (`43_checksum_unit.md` R307). -/
theorem crc24q_eq_foldl (v : List Byte) : crc24q v = v.foldl crcStep 0 := by
  refine (List.foldl_hom (BitVec.setWidth 24) (init := 0) fun c b => ?_).symm
  have hbyte : (c ^^^ b.setWidth 25 <<< 16).setWidth 24 = c.setWidth 24 ^^^ b.setWidth 24 <<< 16 := by
    ext i hi
    simp
  rw [crcStep, ← hbyte]
  exact (crcShift_setWidth.iterate_right 8 _).symm

/-- One bit of the division over naturals (`43_checksum_unit.md` R307). -/
def crcShiftNat (crc : Nat) : Nat :=
  if (2 * crc) &&& 0x1000000 ≠ 0 then (2 * crc) ^^^ 0x1864CFB else 2 * crc

/-- The division over naturals shifts its low 24 bits as the register. -/
theorem crcShift_ofNat : Function.Semiconj (BitVec.ofNat 24) crcShiftNat crcShift := by
  intro c
  have hbit : (2 * c) &&& 0x1000000 ≠ 0 ↔ (BitVec.ofNat 24 c).msb = true := by
    have htwice : (2 * c).testBit 24 = c.testBit 23 := by rw [Nat.testBit_succ, Nat.mul_div_cancel_left c two_pos]
    have hmsb : (BitVec.ofNat 24 c).msb = c.testBit 23 := by
      rw [BitVec.msb_eq_getLsbD_last, BitVec.getLsbD_ofNat]
      rfl
    rw [hmsb, ← htwice, show (0x1000000 : Nat) = 2 ^ 24 from rfl, Nat.and_two_pow]
    cases (2 * c).testBit 24 <;> decide
  have hshift : BitVec.ofNat 24 (2 * c) = BitVec.ofNat 24 c <<< 1 := by
    refine BitVec.eq_of_toNat_eq ?_
    simp [Nat.shiftLeft_eq, mul_comm]
  simp only [crcShiftNat, crcShift, hbit]
  split
  · rw [BitVec.ofNat_xor, hshift]
    rfl
  · exact hshift

theorem crc24q_eq_foldl_nat (v : List Byte) :
    crc24q v = BitVec.ofNat 24 (v.foldl (fun crc b => crcShiftNat^[8] (crc ^^^ (b.toNat <<< 16))) 0 &&& 0xFFFFFF) := by
  have hmask (n : Nat) : BitVec.ofNat 24 (n &&& 0xFFFFFF) = BitVec.ofNat 24 n := by
    rw [BitVec.ofNat_and]
    exact BitVec.and_allOnes
  rw [hmask, crc24q_eq_foldl]
  refine List.foldl_hom (BitVec.ofNat 24) (init := 0) fun crc b => ?_
  have hbyte : BitVec.ofNat 24 (b.toNat <<< 16) = b.setWidth 24 <<< 16 := by
    refine BitVec.eq_of_toNat_eq ?_
    simp [Nat.shiftLeft_eq]
  rw [crcStep, ← hbyte, ← BitVec.ofNat_xor]
  exact (crcShift_ofNat.iterate_right 8 _).symm

/-- Settles O45: the loop over naturals and the model's register both shift as the 24-bit register. -/
theorem chkCrc24q : Obligations.ChkCrc24q := by
  intro s src v hv
  refine ⟨rfl, ?_⟩
  rw [exec_chkCrc24q hv, crc24q_eq_foldl_nat]
  rfl

end Sys2Proof.Machine
end

section
/-! PROOFS. The arithmetic laws of the checksums (`43_checksum_unit.md` R308). -/

namespace Sys2Proof.Machine

/-! ## Sums and exclusive ors -/

/-- Folding an associative operation from its identity distributes over concatenation. -/
theorem foldl_append_op {α : Type} {op : α → α → α} {e : α} [Std.Associative op] [Std.LawfulIdentity op e]
    (u w : List α) : (u ++ w).foldl op e = op (u.foldl op e) (w.foldl op e) := by
  have hid : op (u.foldl op e) e = u.foldl op e := Std.LawfulRightIdentity.right_id _
  rw [List.foldl_append, ← List.foldl_assoc (op := op), hid]

theorem xor8_append (u w : List Byte) : xor8 (u ++ w) = xor8 u ^^^ xor8 w := foldl_append_op u w

/-- A sequence with its `XOR8` after it has the `XOR8` zero. -/
theorem xor8_append_self (u : List Byte) : xor8 (u ++ [xor8 u]) = 0 := by
  have hlast : xor8 [xor8 u] = xor8 u := BitVec.zero_xor
  rw [xor8_append, hlast, BitVec.xor_self]
  rfl

theorem sum32_append {u w : List Byte} {su sw : BitVec 32} (hu : sum32 u = some su) (hw : sum32 w = some sw) :
    sum32 (u ++ w) = some (su + sw) := by
  obtain ⟨wu, hwu, rfl⟩ := Option.map_eq_some_iff.1 hu
  obtain ⟨ww, hww, rfl⟩ := Option.map_eq_some_iff.1 hw
  rw [sum32, le32Words_append w hwu, hww]
  exact congrArg some (foldl_append_op wu ww)

theorem xor32_append {u w : List Byte} {xu xw : BitVec 32} (hu : xor32 u = some xu) (hw : xor32 w = some xw) :
    xor32 (u ++ w) = some (xu ^^^ xw) := by
  obtain ⟨wu, hwu, rfl⟩ := Option.map_eq_some_iff.1 hu
  obtain ⟨ww, hww, rfl⟩ := Option.map_eq_some_iff.1 hw
  rw [xor32, le32Words_append w hwu, hww]
  exact congrArg some (foldl_append_op wu ww)

/-! ## The shift of the CRC register: linear, and no state is lost -/

theorem crcShift_xor (a b : BitVec 24) : crcShift (a ^^^ b) = crcShift a ^^^ crcShift b := by
  simp only [crcShift, BitVec.msb_xor, BitVec.shiftLeft_xor_distrib]
  cases a.msb <;> cases b.msb <;> grind

/-- The polynomial's lowest bit is set, so only the zero register shifts to zero. -/
theorem eq_zero_of_crcShift {c : BitVec 24} (h : crcShift c = 0) : c = 0 := by
  unfold crcShift at h
  split at h
  · have hlow := congrArg (BitVec.getLsbD · 0) h
    simp at hlow
  · next hmsb =>
    rw [BitVec.msb_eq_decide, decide_eq_true_iff] at hmsb
    bv_omega

theorem crcShift_injective : Function.Injective crcShift := fun a b h =>
  BitVec.xor_eq_zero_iff.1 (eq_zero_of_crcShift (by rw [crcShift_xor, h, BitVec.xor_self]; rfl))

theorem crcShift_iterate_xor (n : Nat) (a b : BitVec 24) :
    crcShift^[n] (a ^^^ b) = crcShift^[n] a ^^^ crcShift^[n] b := by
  induction n with
  | zero => rfl
  | succ n ih => simp only [Function.iterate_succ_apply', ih, crcShift_xor]

/-- Bits that stay inside the register are only shifted. -/
theorem crcShift_iterate_of_lt {c : BitVec 24} {n : Nat} (h : c.toNat * 2 ^ n < 2 ^ 24) :
    crcShift^[n] c = c <<< n := by
  induction n with
  | zero => simp
  | succ n ih =>
    rw [pow_succ, ← mul_assoc] at h
    have hmsb : (c <<< n).msb = false := by
      rw [BitVec.msb_eq_decide, BitVec.toNat_shiftLeft, Nat.shiftLeft_eq, Nat.mod_eq_of_lt (by omega)]
      exact decide_eq_false (by omega)
    rw [Function.iterate_succ_apply', ih (by omega), crcShift, hmsb, BitVec.shiftLeft_add]
    rfl

/-! ## The CRC with a trailer -/

/-- Three bytes as the 24-bit value they are written from, most significant first. -/
def word24 (b0 b1 b2 : Byte) : BitVec 24 := b0.setWidth 24 <<< 16 ^^^ b1.setWidth 24 <<< 8 ^^^ b2.setWidth 24

theorem be24_word24 (b0 b1 b2 : Byte) : be24 (word24 b0 b1 b2) = [b0, b1, b2] := by
  simp only [be24, word24, List.cons.injEq, and_true]
  refine ⟨?_, ?_, ?_⟩ <;> ext i hi <;> grind

/-- Three more bytes enter the division at once, as the 24-bit value they make. -/
theorem crc24q_append_three (u : List Byte) (b0 b1 b2 : Byte) :
    crc24q (u ++ [b0, b1, b2]) = crcShift^[24] (crc24q u ^^^ word24 b0 b1 b2) := by
  have hmid : crcShift^[8] (b1.setWidth 24 <<< 8) = b1.setWidth 24 <<< 16 := by
    rw [crcShift_iterate_of_lt (by bv_omega), ← BitVec.shiftLeft_add]
  have hlow : crcShift^[8] (crcShift^[8] (b2.setWidth 24)) = b2.setWidth 24 <<< 16 := by
    rw [← Function.iterate_add_apply]
    exact crcShift_iterate_of_lt (by bv_omega)
  simp only [crc24q_eq_foldl, List.foldl_append, List.foldl_cons, List.foldl_nil, crcStep, word24]
  rw [← hmid, ← hlow, ← crcShift_iterate_xor, ← crcShift_iterate_xor, ← crcShift_iterate_xor,
    ← Function.iterate_add_apply, ← Function.iterate_add_apply, BitVec.xor_assoc, BitVec.xor_assoc, BitVec.xor_assoc]

theorem crc24q_append_be24 (u : List Byte) (k : BitVec 24) :
    crc24q (u ++ be24 k) = 0 ↔ crc24q u = k := by
  have hk : be24 k = be24 (word24 _ _ _) := (be24_word24 ..).symm
  have hzero : crcShift^[24] 0 = 0 := crcShift_iterate_of_lt (c := 0) (by decide)
  rw [be24, crc24q_append_three, ← be24_inj.1 hk]
  conv_lhs => rw [← hzero]
  rw [(crcShift_injective.iterate 24).eq_iff]
  exact BitVec.xor_eq_zero_iff

/-- Settles O46: the sums and exclusive ors are folds of associative operations, and the CRC of a sequence with three
bytes after it is an injective image of their difference from its CRC. -/
theorem checksumLaws : Obligations.ChecksumLaws := by
  intro u w
  refine ⟨xor8_append u w, xor8_append_self u, fun hu hw => ?_, cs8_append_self u, (crc24q_append_be24 u _).2 rfl,
    fun b0 b1 b2 h => ?_⟩
  · obtain ⟨xu, hxu⟩ := Option.isSome_iff_exists.1 (xor32_isSome hu)
    obtain ⟨xw, hxw⟩ := Option.isSome_iff_exists.1 (xor32_isSome hw)
    obtain ⟨su, hsu⟩ := Option.isSome_iff_exists.1 (sum32_isSome hu)
    obtain ⟨sw, hsw⟩ := Option.isSome_iff_exists.1 (sum32_isSome hw)
    have hself := xor32_append_self hu
    rw [hxu, Option.getD_some] at hself
    exact ⟨xu, xw, su, sw, hxu, hxw, xor32_append hxu hxw, hsu, hsw, sum32_append hsu hsw, hself⟩
  · rw [← be24_word24 b0 b1 b2] at h ⊢
    rw [(crc24q_append_be24 u _).1 h]

end Sys2Proof.Machine
end

section
/-! PROOFS. A single changed byte (`43_checksum_unit.md` R309): every checksum changes with any one byte of its span, and
a candidate that matched its trailer no longer does. -/

namespace Sys2Proof.Machine

/-! ## One changed element of a fold -/

section
variable {α σ : Type} {v : List α} {i n : Nat} {b : α}

/-- A change at or behind a cut is a change of what stands behind it. -/
theorem drop_set_ne (hi : n ≤ i) (h : v.set i b ≠ v) : (v.drop n).set (i - n) b ≠ v.drop n := by
  contrapose! h
  rw [← List.take_append_drop n (v.set i b), List.take_set_of_le hi, List.drop_set, if_neg (Nat.not_lt.2 hi), h,
    List.take_append_drop]

/-- A change before a cut is a change of what stands before it. -/
theorem take_set_ne (hi : i < n) (h : v.set i b ≠ v) : (v.take n).set i b ≠ v.take n := by
  contrapose! h
  rw [← List.take_append_drop n (v.set i b), List.take_set, h, List.drop_set_of_lt hi, List.take_append_drop]

/-- A fold whose step loses neither the state nor the element loses no single change of the list. -/
theorem foldl_set_ne {f : σ → α → σ} (hstate : ∀ x, Function.Injective (f · x))
    (helem : ∀ s, Function.Injective (f s)) (h : v.set i b ≠ v) (s : σ) :
    (v.set i b).foldl f s ≠ v.foldl f s := by
  have hrest (w : List α) : Function.Injective (fun s => w.foldl f s) := by
    induction w with
    | nil => exact Function.injective_id
    | cons x w ih => exact ih.comp (hstate x)
  induction v generalizing i s with
  | nil => exact absurd rfl h
  | cons x v ih =>
    cases i with
    | zero =>
      refine fun he => h ?_
      rw [List.set_cons_zero, helem s (hrest v he)]
    | succ i => exact ih (fun he => h (congrArg (x :: ·) he)) (f s x)

end

/-! ## One changed byte of a checksum's span -/

section
variable {v : List Byte} {i : Nat} {b : Byte}

theorem xor8_set_ne (h : v.set i b ≠ v) : xor8 (v.set i b) ≠ xor8 v :=
  foldl_set_ne (fun x _ _ => (BitVec.xor_left_inj x).1) (fun s _ _ => (BitVec.xor_right_inj s).1) h 0

/-- The rotation by 2 is undone by the one by 6. -/
theorem rotl8_two_injective : Function.Injective (rotl8 · 2) :=
  Function.LeftInverse.injective (g := (rotl8 · 6)) (by decide : ∀ x : Byte, rotl8 (rotl8 x 2) 6 = x)

theorem cs8_set_ne (h : v.set i b ≠ v) : cs8 (v.set i b) ≠ cs8 v :=
  rotl8_two_injective.ne (foldl_set_ne (fun x _ _ he => rotl8_two_injective ((BitVec.xor_left_inj x).1 he))
    (fun s _ _ => (BitVec.xor_right_inj (rotl8 s 2)).1) h 0)

/-- The first Fletcher accumulator is the sum of the bytes (`43_checksum_unit.md` R304). -/
theorem fletch8_fst (v : List Byte) : (fletch8 v).1 = v.foldl (· + ·) 0 :=
  (List.foldl_hom Prod.fst (init := (0, 0)) fun _ _ => rfl).symm

theorem fletch8_set_ne (h : v.set i b ≠ v) : (fletch8 (v.set i b)).1 ≠ (fletch8 v).1 := by
  rw [fletch8_fst, fletch8_fst]
  exact foldl_set_ne (fun x _ _ => (BitVec.add_left_inj x).1) (fun s _ _ => (BitVec.add_right_inj s).1) h 0

theorem crcStep_injective_register (b : Byte) : Function.Injective (crcStep · b) := by
  intro c d h
  exact (BitVec.xor_left_inj _).1 (crcShift_injective.iterate 8 h)

theorem crcStep_injective_byte (c : BitVec 24) : Function.Injective (crcStep c) := by
  intro a b h
  have hbyte := (BitVec.xor_right_inj _).1 (crcShift_injective.iterate 8 h)
  bv_omega

theorem crc24q_set_ne (h : v.set i b ≠ v) : crc24q (v.set i b) ≠ crc24q v := by
  rw [crc24q_eq_foldl, crc24q_eq_foldl]
  exact foldl_set_ne crcStep_injective_register crcStep_injective_byte h 0

/-- The bytes of a word that is put together from bytes. -/
theorem le32Bytes_le32 (b0 b1 b2 b3 : Byte) : le32Bytes (le32 b0 b1 b2 b3) = [b0, b1, b2, b3] := by
  simp only [le32Bytes, le32_eq_ofNat, List.cons.injEq, and_true]
  refine ⟨?_, ?_, ?_, ?_⟩ <;> bv_omega

/-- A word determines its four bytes. -/
theorem le32_inj {b0 b1 b2 b3 c0 c1 c2 c3 : Byte} :
    le32 b0 b1 b2 b3 = le32 c0 c1 c2 c3 ↔ b0 = c0 ∧ b1 = c1 ∧ b2 = c2 ∧ b3 = c3 := by
  refine ⟨fun h => ?_, by rintro ⟨rfl, rfl, rfl, rfl⟩; rfl⟩
  simpa [le32Bytes_le32] using congrArg le32Bytes h

/-- A changed byte of a sequence of whole words is one changed word (`20_memory.md` R67). -/
theorem le32Words_set : ∀ {v : List Byte} {ws : List (BitVec 32)} {i : Nat}, le32Words v = some ws → v.set i b ≠ v →
    ∃ j w, ws.set j w ≠ ws ∧ le32Words (v.set i b) = some (ws.set j w)
  | [], _, _, _, h => absurd rfl h
  | [_], _, _, hw, _ | [_, _], _, _, hw, _ | [_, _, _], _, _, hw, _ => by cases hw
  | b0 :: b1 :: b2 :: b3 :: v, ws, i, hw, h => by
    obtain ⟨ws, hv, rfl⟩ := Option.map_eq_some_iff.1 hw
    match i with
    | 0 => exact ⟨0, le32 b b1 b2 b3, by simpa [le32_inj] using h, by simp [le32Words, hv]⟩
    | 1 => exact ⟨0, le32 b0 b b2 b3, by simpa [le32_inj] using h, by simp [le32Words, hv]⟩
    | 2 => exact ⟨0, le32 b0 b1 b b3, by simpa [le32_inj] using h, by simp [le32Words, hv]⟩
    | 3 => exact ⟨0, le32 b0 b1 b2 b, by simpa [le32_inj] using h, by simp [le32Words, hv]⟩
    | i + 4 =>
      obtain ⟨j, w, hne, hset⟩ := le32Words_set hv (i := i) (by simpa using h)
      exact ⟨j + 1, w, by simpa using hne, by simp [le32Words, hset]⟩

theorem sum32_set_ne {k : BitVec 32} (hk : sum32 v = some k) (h : v.set i b ≠ v) : sum32 (v.set i b) ≠ some k := by
  obtain ⟨ws, hws, rfl⟩ := Option.map_eq_some_iff.1 hk
  obtain ⟨j, w, hne, hset⟩ := le32Words_set hws h
  rw [sum32, hset]
  exact fun he => foldl_set_ne (fun x _ _ => (BitVec.add_left_inj x).1) (fun s _ _ => (BitVec.add_right_inj s).1) hne 0
    (Option.some.inj he)

theorem xor32_set_ne {k : BitVec 32} (hk : xor32 v = some k) (h : v.set i b ≠ v) : xor32 (v.set i b) ≠ some k := by
  obtain ⟨ws, hws, rfl⟩ := Option.map_eq_some_iff.1 hk
  obtain ⟨j, w, hne, hset⟩ := le32Words_set hws h
  rw [xor32, hset]
  exact fun he => foldl_set_ne (fun x _ _ => (BitVec.xor_left_inj x).1) (fun s _ _ => (BitVec.xor_right_inj s).1) hne 0
    (Option.some.inj he)

/-- The two hex digits of a byte determine it (`30_encoding.md` R108). -/
theorem hexPair_injective : Function.Injective hexPair := by
  intro x y h
  have hval {m n : Nat} (hm : m < 16) (hn : n < 16) (he : hexChar m = hexChar n) : m = n := by
    rw [← (hexChar_digit hm).2, he, (hexChar_digit hn).2]
  simp only [hexPair, List.cons.injEq, and_true] at h
  obtain ⟨hhigh, hlow⟩ := h
  have h16 := hval (by omega) (by omega) hhigh
  have h1 := hval (by omega) (by omega) hlow
  bv_omega

end

/-! ## A candidate that matches its trailer -/

/-- A candidate ends in the `k` bytes its chain's check computes from what stands before them (`43_checksum_unit.md`
R309). -/
abbrev Trailed (check : List Byte → Option (List Byte)) (k : Nat) (cand : List Byte) : Prop :=
  check (cand.take (cand.length - k)) = some (cand.drop (cand.length - k))

/-- UBX and ALLYSTAR (`42_binary_chains.md` R240, R250). -/
def fletcherTrailer (head : List Byte) : Option (List Byte) :=
  some [(fletch8 (head.drop 2)).1, (fletch8 (head.drop 2)).2]

/-- CASIC (`42_binary_chains.md` R262). -/
def casicTrailer (head : List Byte) : Option (List Byte) := (sum32 (head.drop 2)).map le32Bytes

/-- RTCM3 (`42_binary_chains.md` R292). -/
def rtcm3Trailer (head : List Byte) : Option (List Byte) := some (be24 (crc24q head))

/-- NMEA and AIS (`41_text_chains.md` R188): the span is what stands between the leader and the `*`. -/
def nmeaTrailer (head : List Byte) : Option (List Byte) :=
  some (hexPair (xor8 ((head.take (head.length - 1)).drop 1)))

section
variable {check : List Byte → Option (List Byte)} {k i : Nat} {b : Byte} {cand head t : List Byte}

/-- One changed byte breaks the match: in the trailer by itself, before it where the check sees it. -/
theorem Trailed.not_set (h : Trailed check k cand) (hne : cand.set i b ≠ cand)
    (hcheck : ∀ head t, head.length = cand.length - k → check head = some t → head.set i b ≠ head →
      check (head.set i b) ≠ some t) : ¬Trailed check k (cand.set i b) := by
  unfold Trailed
  rw [List.length_set, List.take_set, List.drop_set]
  split
  · next hi => exact hcheck _ _ (by simp) h (take_set_ne hi hne)
  · next hi =>
    rw [List.set_eq_of_length_le (by simp; omega), h]
    exact fun he => drop_set_ne (Nat.not_lt.1 hi) hne (Option.some.inj he).symm

theorem fletcherTrailer_set (hi : 2 ≤ i) (h : fletcherTrailer head = some t) (hne : head.set i b ≠ head) :
    fletcherTrailer (head.set i b) ≠ some t := by
  rw [← h, fletcherTrailer, List.drop_set, if_neg (Nat.not_lt.2 hi)]
  exact fun he => fletch8_set_ne (drop_set_ne hi hne) (List.cons.inj (Option.some.inj he)).1

theorem casicTrailer_set (hi : 2 ≤ i) (h : casicTrailer head = some t) (hne : head.set i b ≠ head) :
    casicTrailer (head.set i b) ≠ some t := by
  obtain ⟨k, hk, rfl⟩ := Option.map_eq_some_iff.1 h
  rw [casicTrailer, List.drop_set, if_neg (Nat.not_lt.2 hi)]
  intro he
  obtain ⟨k', hk', hkk⟩ := Option.map_eq_some_iff.1 he
  exact sum32_set_ne hk (drop_set_ne hi hne) (le32Bytes_inj.1 hkk ▸ hk')

theorem rtcm3Trailer_set (h : rtcm3Trailer head = some t) (hne : head.set i b ≠ head) :
    rtcm3Trailer (head.set i b) ≠ some t := by
  rw [← h]
  exact fun he => crc24q_set_ne hne (be24_inj.1 (Option.some.inj he))

theorem nmeaTrailer_set (hi : 1 ≤ i) (hstar : i ≠ head.length - 1) (h : nmeaTrailer head = some t)
    (hne : head.set i b ≠ head) : nmeaTrailer (head.set i b) ≠ some t := by
  have hspan : i < head.length - 1 := by
    by_contra hge
    exact hne (List.set_eq_of_length_le (by omega))
  rw [← h, nmeaTrailer, List.length_set, List.take_set, List.drop_set, if_neg (Nat.not_lt.2 hi)]
  exact fun he => xor8_set_ne (drop_set_ne hi (take_set_ne hspan hne)) (hexPair_injective (Option.some.inj he))

/-! ## The validation passes by their trailers -/

theorem fletchMatches_iff_trailed (cand : List Byte) : fletchMatches cand = true ↔ Trailed fletcherTrailer 2 cand :=
  beq_iff_eq.trans ⟨fun h => congrArg some h.symm, fun h => (Option.some.inj h).symm⟩

theorem validateCasic_eq (cand : List Byte) :
    validateCasic cand = if Trailed casicTrailer 4 cand then .accept .casic cand.length else .bad := by
  unfold validateCasic Trailed casicTrailer
  cases sum32 ((cand.take (cand.length - 4)).drop 2) with
  | none => rfl
  | some k => simp only [Option.map_some, Option.some.injEq, eq_comm]

theorem validateRtcm3_eq (cand : List Byte) :
    validateRtcm3 cand = if Trailed rtcm3Trailer 3 cand then .accept .rtcm3 cand.length else .bad :=
  if_congr ⟨fun h => congrArg some h.symm, fun h => (Option.some.inj h).symm⟩ rfl rfl

/-- A sentence that is not exempt and has its `*` (`41_text_chains.md` R188). -/
theorem validateNmea_starred {cfg : Config} {sent eol : List Byte}
    (hlen : strippedLength (sent ++ eol) = sent.length) (hex : ∀ p ∈ cfg.nmeaExempt, ¬p <+: sent)
    (h4 : 4 ≤ sent.length) (hstar : sent[sent.length - 3]? = some 0x2A) :
    validateNmea cfg (sent ++ eol) =
      if Trailed nmeaTrailer 2 sent then .accept (sentenceType (sent ++ eol)) sent.length else .bad := by
  have hspan : (sent.take (sent.length - 2)).take ((sent.take (sent.length - 2)).length - 1) =
      sent.take (sent.length - 3) := by
    rw [List.take_take, List.length_take]
    congr 1
    omega
  rw [validateNmea_stripped cfg hlen, if_neg (by simpa using hex), if_pos ⟨h4, hstar⟩]
  simp only [Trailed, nmeaTrailer, hspan, Option.some.injEq, eq_comm]

/-- What accepted says that its test held. -/
theorem holds_of_accept {P : Prop} [Decidable P] {ty ty' : PacketType} {m n : Nat}
    (h : (if P then Verdict.accept ty m else .bad) = .accept ty' n) : P := by
  by_contra hP
  rw [if_neg hP] at h
  cases h

/-- UBX and ALLYSTAR behind their leaders. -/
theorem fletchMatches_set (hi : 2 ≤ i) (hne : cand.set i b ≠ cand) (h : fletchMatches cand = true) :
    ¬fletchMatches (cand.set i b) = true := by
  rw [fletchMatches_iff_trailed] at h ⊢
  exact h.not_set hne fun _ _ _ => fletcherTrailer_set hi

theorem validateCasic_set (hi : 2 ≤ i) (hne : cand.set i b ≠ cand)
    (h : validateCasic cand = .accept .casic cand.length) : validateCasic (cand.set i b) = .bad := by
  rw [validateCasic_eq] at h ⊢
  exact if_neg ((holds_of_accept h).not_set hne fun _ _ _ => casicTrailer_set hi)

theorem validateRtcm3_set (hne : cand.set i b ≠ cand)
    (h : validateRtcm3 cand = .accept .rtcm3 cand.length) : validateRtcm3 (cand.set i b) = .bad := by
  rw [validateRtcm3_eq] at h ⊢
  exact if_neg ((holds_of_accept h).not_set hne fun _ _ _ => rtcm3Trailer_set)

theorem validateGeostar_set (hne : cand.set i b ≠ cand)
    (h : validateGeostar cand = .accept .geostar cand.length) : validateGeostar (cand.set i b) = .bad :=
  if_neg (xor32_set_ne (holds_of_accept h) hne)

/-- A change behind the two ID bytes does not exempt a message. -/
theorem validateGreis_set (hi : 2 ≤ i) (hne : cand.set i b ≠ cand) (hex : greisExempt cand = false)
    (h : validateGreis cand = .accept .greis cand.length) : validateGreis (cand.set i b) = .bad := by
  have hex' : greisExempt (cand.set i b) = false := by rw [greisExempt, List.take_set_of_le hi]; exact hex
  have hsum : cs8 cand = 0 := by
    rw [validateGreis, hex] at h
    exact holds_of_accept h
  rw [validateGreis, hex']
  exact if_neg (hsum ▸ cs8_set_ne hne)

/-- A change that spares the leader, the `*` and the line end of a checked sentence. -/
theorem validateNmea_set {cfg : Config} {sent eol : List Byte} {ty : PacketType} (hi : 1 ≤ i)
    (hne : sent.set i b ≠ sent) (hlen : strippedLength (sent ++ eol) = sent.length)
    (hlen' : strippedLength (sent.set i b ++ eol) = (sent.set i b).length)
    (h4 : 4 ≤ sent.length) (hstar : sent[sent.length - 3]? = some 0x2A) (histar : i ≠ sent.length - 3)
    (hex : ∀ p ∈ cfg.nmeaExempt, ¬p <+: sent) (hex' : ∀ p ∈ cfg.nmeaExempt, ¬p <+: sent.set i b)
    (h : validateNmea cfg (sent ++ eol) = .accept ty sent.length) :
    validateNmea cfg (sent.set i b ++ eol) = .bad := by
  rw [validateNmea_starred hlen hex h4 hstar] at h
  rw [validateNmea_starred hlen' hex' (by rwa [List.length_set])
    (by rwa [List.length_set, List.getElem?_set_ne histar])]
  exact if_neg ((holds_of_accept h).not_set hne fun head _ hhead => nmeaTrailer_set hi (by omega))

end

/-- Settles O47: each check loses no single change of its span, and each pass compares it with its trailer or with 0. -/
theorem singleByteFlipIsBad : Obligations.SingleByteFlipIsBad := by
  intro cand i b hi hb
  have hne : cand.set i b ≠ cand := by
    intro he
    rw [← he, List.getD_eq_getElem _ _ (by simpa using hi)] at hb
    simp at hb
  refine ⟨fun _ h2 h => if_neg (fletchMatches_set h2 hne (holds_of_accept h)),
    fun _ h2 h => if_neg (fletchMatches_set h2 hne (holds_of_accept h)), fun _ h2 => validateCasic_set h2 hne,
    validateGeostar_set hne, fun h2 => validateGreis_set h2 hne, fun _ => validateRtcm3_set hne, ?_⟩
  rintro cfg sent eol ty rfl h1 hisent heol hlast hlast' h4 hstar histar hex hex' h
  rw [List.set_append_left _ _ hisent] at hne ⊢
  exact validateNmea_set h1 (fun he => hne (congrArg (· ++ eol) he)) (strippedLength_append_eol heol hlast)
    (strippedLength_append_eol heol hlast') h4 hstar histar hex hex' h

end Sys2Proof.Machine
end

section
/-! PROOFS. The numbers of BFX (`44_bit_extractor.md` R331, R332, R355): a field splits into the fields it is made of, and
from that follow its bits, its bytes, the shift-and-mask form and the join of adjacent fields. -/

namespace Sys2Proof.Machine

/-! ## Big-endian fields -/

section
variable {v v' : List Byte}

/-- `bit(v, k)` as a bit of the library (`44_bit_extractor.md` R331). -/
theorem bitAt_eq_toNat (v : List Byte) (k : Nat) : bitAt v k = ((v.getD (k / 8) 0).getLsbD (7 - k % 8)).toNat := by
  rw [bitAt, Nat.and_one_is_mod, Nat.shiftRight_eq_div_pow, ← Nat.toNat_testBit, BitVec.testBit_toNat]

theorem bitAt_lt (v : List Byte) (k : Nat) : bitAt v k < 2 := by
  rw [bitAt_eq_toNat]
  exact Bool.toNat_lt _

@[simp] theorem bitField_zero (v : List Byte) (start : Nat) : bitField v start 0 = 0 := rfl

/-- A field grows by its least significant bit (`44_bit_extractor.md` R332). -/
theorem bitField_succ (v : List Byte) (start width : Nat) :
    bitField v start (width + 1) = 2 * bitField v start width + bitAt v (start + width) := by
  rw [bitField, List.range_succ, List.foldl_append]
  rfl

theorem bitField_one (v : List Byte) (start : Nat) : bitField v start 1 = bitAt v start := by
  simp [bitField_succ]

theorem bitField_lt (v : List Byte) (start width : Nat) : bitField v start width < 2 ^ width := by
  induction width with
  | zero => exact Nat.one_pos
  | succ width ih =>
    have hbit := bitAt_lt v (start + width)
    rw [bitField_succ, pow_succ]
    omega

/-- Adjacent fields join (`44_bit_extractor.md` R354(d)). -/
theorem bitField_add (v : List Byte) (start w1 w2 : Nat) :
    bitField v start (w1 + w2) = 2 ^ w2 * bitField v start w1 + bitField v (start + w1) w2 := by
  induction w2 with
  | zero => simp
  | succ w2 ih =>
    rw [← Nat.add_assoc, bitField_succ, ih, bitField_succ, pow_succ, Nat.add_assoc start]
    ring

/-- A part of a field: drop the bits behind it, then mask those before it (`44_bit_extractor.md` R335). -/
theorem bitField_slice (v : List Byte) (start before width behind : Nat) :
    bitField v start (before + width + behind) / 2 ^ behind % 2 ^ width = bitField v (start + before) width := by
  rw [bitField_add, Nat.mul_add_div (Nat.two_pow_pos _), Nat.div_eq_of_lt (bitField_lt ..), Nat.add_zero,
    bitField_add, Nat.mul_add_mod, Nat.mod_eq_of_lt (bitField_lt ..)]

/-- The bits of a field, the first one most significant (`44_bit_extractor.md` R332). -/
theorem testBit_bitField {start width i : Nat} (hi : i < width) :
    (bitField v start width).testBit (width - 1 - i) = (v.getD ((start + i) / 8) 0).getLsbD (7 - (start + i) % 8) := by
  have hslice := bitField_slice v start i 1 (width - 1 - i)
  rw [show i + 1 + (width - 1 - i) = width by omega, pow_one, ← Nat.toNat_testBit, bitField_one,
    bitAt_eq_toNat] at hslice
  rw [Bool.eq_iff_iff, ← Bool.toNat_eq_one, ← Bool.toNat_eq_one, hslice]

/-- A field depends on its bits alone. -/
theorem bitField_congr {start width : Nat} (h : ∀ i, i < width → bitAt v (start + i) = bitAt v' (start + i)) :
    bitField v start width = bitField v' start width := by
  induction width with
  | zero => rfl
  | succ width ih =>
    rw [bitField_succ, bitField_succ, ih fun i hi => h i (by omega), h width (by omega)]

/-- A field depends on the bytes that cover it alone (`44_bit_extractor.md` R354(g)). -/
theorem bitField_congr_bytes {start width : Nat}
    (h : ∀ k, start / 8 ≤ k → k ≤ (start + width - 1) / 8 → v.getD k 0 = v'.getD k 0) :
    bitField v start width = bitField v' start width :=
  bitField_congr fun i hi => by rw [bitAt, bitAt, h ((start + i) / 8) (by omega) (by omega)]

/-! ## Big-endian bytes -/

/-- The first bits of a byte are its quotient by the bits behind them. -/
theorem bitField_byte_high (v : List Byte) (k : Nat) {n : Nat} (hn : n ≤ 8) :
    bitField v (8 * k) n = (v.getD k 0).toNat / 2 ^ (8 - n) := by
  induction n with
  | zero => exact (Nat.div_eq_of_lt (v.getD k 0).isLt).symm
  | succ n ih =>
    have hbyte : (8 * k + n) / 8 = k := by omega
    have hplace : 7 - (8 * k + n) % 8 = 8 - (n + 1) := by omega
    have hhalf : (v.getD k 0).toNat / 2 ^ (8 - n) = (v.getD k 0).toNat / 2 ^ (8 - (n + 1)) / 2 := by
      rw [Nat.div_div_eq_div_mul, ← pow_succ, show 8 - (n + 1) + 1 = 8 - n by omega]
    rw [bitField_succ, ih (by omega), bitAt, hbyte, hplace, Nat.and_one_is_mod, Nat.shiftRight_eq_div_pow, hhalf]
    exact Nat.div_add_mod _ 2

theorem bitField_byte (v : List Byte) (k : Nat) : bitField v (8 * k) 8 = (v.getD k 0).toNat := by
  rw [bitField_byte_high v k le_rfl, Nat.sub_self, pow_zero, Nat.div_one]

theorem beValue_succ (v : List Byte) (off nb : Nat) :
    beValue v off (nb + 1) = 256 * beValue v off nb + (v.getD (off + nb) 0).toNat := by
  have hhead : ∀ j ∈ List.range nb, (v.getD (off + j) 0).toNat * 256 ^ (nb + 1 - 1 - j) =
      256 * ((v.getD (off + j) 0).toNat * 256 ^ (nb - 1 - j)) := fun j hj => by
    rw [show nb + 1 - 1 - j = nb - 1 - j + 1 by have := List.mem_range.1 hj; omega, pow_succ]
    ring
  rw [beValue, List.range_succ, List.map_append, List.sum_append, List.map_congr_left hhead, List.sum_map_mul_left]
  simp [beValue]

/-- `BE(v, off, nb)` is the field of its bytes (`44_bit_extractor.md` R352, R355). -/
theorem beValue_eq_bitField (v : List Byte) (off nb : Nat) : beValue v off nb = bitField v (8 * off) (8 * nb) := by
  induction nb with
  | zero => rfl
  | succ nb ih =>
    rw [beValue_succ, ih, Nat.mul_succ 8 nb, bitField_add, ← Nat.mul_add, bitField_byte]
    rfl

theorem beValue_lt (v : List Byte) (off nb : Nat) : beValue v off nb < 2 ^ (8 * nb) :=
  beValue_eq_bitField v off nb ▸ bitField_lt ..

theorem beValue_add (v : List Byte) (off n1 n2 : Nat) :
    beValue v off (n1 + n2) = 2 ^ (8 * n2) * beValue v off n1 + beValue v (off + n1) n2 := by
  simp only [beValue_eq_bitField, Nat.mul_add, bitField_add]

/-- The base-256 digits of `BE(v, off, nb)`, most significant first. -/
theorem beValue_digit {off nb j : Nat} (hj : j < nb) :
    beValue v off nb / 256 ^ (nb - 1 - j) % 256 = (v.getD (off + j) 0).toNat := by
  have hslice := bitField_slice v (8 * off) (8 * j) 8 (8 * (nb - 1 - j))
  rwa [show 8 * j + 8 + 8 * (nb - 1 - j) = 8 * nb by omega, ← beValue_eq_bitField, pow_mul, ← Nat.mul_add,
    bitField_byte] at hslice

/-! ## Little-endian bytes -/

/-- A sum of weighted bytes, least significant first, as a number of the library. -/
theorem sum_mul_pow_eq_ofDigits (d : Nat → Nat) (nb : Nat) :
    ((List.range nb).map fun j => d j * 256 ^ j).sum = Nat.ofDigits 256 ((List.range nb).map d) := by
  induction nb with
  | zero => rfl
  | succ nb ih => simp [List.range_succ, Nat.ofDigits_append, ih, Nat.mul_comm]

theorem ofDigits_range_lt {d : Nat → Nat} (nb : Nat) (hd : ∀ j, d j < 256) :
    Nat.ofDigits 256 ((List.range nb).map d) < 2 ^ (8 * nb) := by
  have hlt := Nat.ofDigits_lt_base_pow_length (l := (List.range nb).map d) (by decide : 1 < 256) (by simp [hd])
  rwa [List.length_map, List.length_range, show 256 = 2 ^ 8 from rfl, ← pow_mul] at hlt

theorem ofDigits_range_digit {d : Nat → Nat} {nb j : Nat} (hd : ∀ j, d j < 256) (hj : j < nb) :
    Nat.ofDigits 256 ((List.range nb).map d) / 256 ^ j % 256 = d j := by
  rw [Nat.ofDigits_div_pow_eq_ofDigits_drop _ (by decide) _ (by simp [hd]), List.drop_eq_getElem_cons (by simpa using hj),
    Nat.ofDigits_cons, Nat.add_mul_mod_self_left, List.getElem_map, List.getElem_range, Nat.mod_eq_of_lt (hd j)]

theorem leValue_eq_ofDigits (v : List Byte) (off nb : Nat) :
    leValue v off nb = Nat.ofDigits 256 ((List.range nb).map fun j => (v.getD (off + j) 0).toNat) :=
  sum_mul_pow_eq_ofDigits ..

theorem leValue_lt (v : List Byte) (off nb : Nat) : leValue v off nb < 2 ^ (8 * nb) :=
  leValue_eq_ofDigits v off nb ▸ ofDigits_range_lt nb fun _ => BitVec.isLt _

/-- The base-256 digits of `LE(v, off, nb)`, least significant first. -/
theorem leValue_digit {off nb j : Nat} (hj : j < nb) :
    leValue v off nb / 256 ^ j % 256 = (v.getD (off + j) 0).toNat := by
  rw [leValue_eq_ofDigits, ofDigits_range_digit (fun _ => BitVec.isLt _) hj]

theorem leValue_add (v : List Byte) (off n1 n2 : Nat) :
    leValue v off (n1 + n2) = leValue v off n1 + 2 ^ (8 * n1) * leValue v (off + n1) n2 := by
  simp only [leValue_eq_ofDigits, List.range_add, List.map_append, Nat.ofDigits_append, List.map_map, pow_mul,
    List.length_map, List.length_range, Function.comp_def, Nat.add_assoc, Nat.reducePow]

/-- `ByteReverse(u, nb)` by its digits (`44_bit_extractor.md` R332). -/
theorem byteReverse_eq_ofDigits (u nb : Nat) :
    byteReverse u nb = Nat.ofDigits 256 ((List.range nb).map fun j => u / 256 ^ (nb - 1 - j) % 256) := by
  rw [← sum_mul_pow_eq_ofDigits, byteReverse]
  refine congrArg List.sum (List.map_congr_left fun j _ => ?_)
  rw [show 0xFF = 2 ^ 8 - 1 from rfl, Nat.and_two_pow_sub_one_eq_mod, Nat.shiftLeft_eq, Nat.shiftRight_eq_div_pow,
    pow_mul, pow_mul]
  rfl

theorem byteReverse_lt (u nb : Nat) : byteReverse u nb < 2 ^ (8 * nb) :=
  byteReverse_eq_ofDigits u nb ▸ ofDigits_range_lt nb fun _ => Nat.mod_lt _ (by decide)

theorem byteReverse_digit {u nb j : Nat} (hj : j < nb) :
    byteReverse u nb / 256 ^ j % 256 = u / 256 ^ (nb - 1 - j) % 256 := by
  rw [byteReverse_eq_ofDigits, ofDigits_range_digit (fun _ => Nat.mod_lt _ (by decide)) hj]

/-- Inside a byte of a number the bits keep their places. -/
theorem testBit_digit (u j : Nat) {k : Nat} (hk : k < 8) :
    (u / 256 ^ j % 256).testBit k = u.testBit (8 * j + k) := by
  rw [show 256 = 2 ^ 8 from rfl, ← pow_mul, Nat.testBit_mod_two_pow, decide_eq_true hk, Bool.true_and,
    Nat.testBit_div_two_pow, Nat.add_comm]

/-- Byte `j` of the reversed number is byte `nb - 1 - j` of the number, its bits in their places. -/
theorem testBit_byteReverse {u nb j k : Nat} (hj : j < nb) (hk : k < 8) :
    (byteReverse u nb).testBit (8 * j + k) = u.testBit (8 * (nb - 1 - j) + k) := by
  rw [← testBit_digit _ _ hk, byteReverse_digit hj, testBit_digit _ _ hk]

/-- Reversing the bytes of the big-endian number gives the little-endian one (`44_bit_extractor.md` R352). -/
theorem byteReverse_beValue (v : List Byte) (off nb : Nat) : byteReverse (beValue v off nb) nb = leValue v off nb := by
  rw [byteReverse_eq_ofDigits, leValue_eq_ofDigits]
  exact congrArg _ (List.map_congr_left fun j hj => beValue_digit (List.mem_range.1 hj))

/-- One byte is its own reversal (`44_bit_extractor.md` R354(e)). -/
theorem byteReverse_one {u : Nat} (hu : u < 256) : byteReverse u 1 = u := by
  simp [byteReverse_eq_ofDigits, Nat.mod_eq_of_lt hu]

end

/-! ## The extractor and the accessors -/

/-- The conditions under which a field does not fail (`44_bit_extractor.md` R334). -/
def FieldFits (v : List Byte) (start width : Nat) (le : Bool) : Prop :=
  0 < width ∧ width ≤ 56 ∧ start + width ≤ 8 * v.length ∧ (le = true → width % 8 = 0)

/-- The number a field that fits stands for (`44_bit_extractor.md` R332). -/
def fieldValue (v : List Byte) (start width : Nat) (le : Bool) : Nat :=
  if le then byteReverse (bitField v start width) (width / 8) else bitField v start width

section
variable {v : List Byte} {start width off nb : Nat} {le : Bool}

theorem fieldFail_eq_false_iff : fieldFail v start width le = false ↔ FieldFits v start width le := by
  cases le <;> simp [fieldFail, FieldFits, Nat.pos_iff_ne_zero, and_assoc]

/-- What `UBITS` returns, and when (`44_bit_extractor.md` R332, R334). -/
theorem ubits_eq_some_iff {u : Nat} :
    ubits v start width le = some u ↔ FieldFits v start width le ∧ fieldValue v start width le = u := by
  rw [← fieldFail_eq_false_iff, ubits, fieldValue]
  cases fieldFail v start width le <;> cases le <;> simp

theorem ubits_eq_none_iff : ubits v start width le = none ↔ ¬ FieldFits v start width le := by
  rw [Option.eq_none_iff_forall_ne_some]
  simp [ubits_eq_some_iff]

theorem FieldFits.ubits (h : FieldFits v start width le) :
    ubits v start width le = some (fieldValue v start width le) := ubits_eq_some_iff.2 ⟨h, rfl⟩

theorem FieldFits.fieldValue_lt (h : FieldFits v start width le) : fieldValue v start width le < 2 ^ width := by
  obtain ⟨_, _, _, hle⟩ := h
  cases le with
  | false => exact bitField_lt ..
  | true =>
    have hlt := byteReverse_lt (bitField v start width) (width / 8)
    rwa [Nat.mul_div_cancel' (Nat.dvd_of_mod_eq_zero (hle rfl))] at hlt

theorem getBeU_of_le (h : off + nb ≤ v.length) : getBeU v off nb = some (beValue v off nb) :=
  if_neg (by simpa [accessFail] using h)

theorem getLeU_of_le (h : off + nb ≤ v.length) : getLeU v off nb = some (leValue v off nb) :=
  if_neg (by simpa [accessFail] using h)

theorem getBeU_of_lt (h : v.length < off + nb) : getBeU v off nb = none := if_pos (decide_eq_true h)

theorem getLeU_of_lt (h : v.length < off + nb) : getLeU v off nb = none := if_pos (decide_eq_true h)

/-- Whole bytes of at most 56 bits: the accessors are the extractor (`44_bit_extractor.md` R352). -/
theorem getU_eq_ubits (hpos : 0 < nb) (hnb : nb ≤ 7) (h : off + nb ≤ v.length) :
    getBeU v off nb = ubits v (8 * off) (8 * nb) false ∧ getLeU v off nb = ubits v (8 * off) (8 * nb) true := by
  have hfits (le : Bool) : FieldFits v (8 * off) (8 * nb) le := ⟨by omega, by omega, by omega, fun _ => by omega⟩
  rw [getBeU_of_le h, getLeU_of_le h, (hfits _).ubits, (hfits _).ubits, ← byteReverse_beValue, beValue_eq_bitField]
  simp [fieldValue]

/-- `S(u, w)` lies in the range of a `w`-bit two's-complement number (`44_bit_extractor.md` R355). -/
theorem signedValue_bounds {u w : Nat} (hw : 0 < w) (hu : u < 2 ^ w) :
    -(2 ^ (w - 1) : Int) ≤ signedValue u w ∧ signedValue u w < 2 ^ (w - 1) := by
  obtain ⟨w, rfl⟩ := Nat.exists_eq_succ_of_ne_zero hw.ne'
  rw [Nat.pow_succ] at hu
  have hcast : (2 ^ w : Int) = (2 ^ w : Nat) := by norm_cast
  rw [signedValue, Nat.succ_sub_one, pow_succ, hcast]
  split <;> omega

/-- At most 64 bits, `S(u, w)` is kept exactly by the 64-bit pattern (`44_bit_extractor.md` R354(b)). -/
theorem toInt_ofInt_signedValue {u w : Nat} (hw : 0 < w) (hw64 : w ≤ 64) (hu : u < 2 ^ w) :
    (BitVec.ofInt 64 (signedValue u w)).toInt = signedValue u w := by
  obtain ⟨hlow, hhigh⟩ := signedValue_bounds hw hu
  have hpow : (2 ^ (w - 1) : Int) ≤ 2 ^ 63 := pow_le_pow_right₀ (by decide) (by omega)
  exact BitVec.toInt_ofInt_eq_self (by decide) (by omega) (by omega)

end

/-- Settles O51: the field is a part of the field of its covering bytes. -/
theorem ubitsIsShiftAndMask : Obligations.UbitsIsShiftAndMask := by
  intro v start width hpos hwidth hlen
  refine ⟨by omega, ?_⟩
  have hslice := bitField_slice v (8 * (start / 8)) (start % 8) width (7 - (start + width - 1) % 8)
  rw [show start % 8 + width + (7 - (start + width - 1) % 8) = 8 * ((start + width - 1) / 8 - start / 8 + 1) by omega,
    Nat.div_add_mod] at hslice
  have hfits : FieldFits v start width false := ⟨hpos, hwidth, hlen, nofun⟩
  rw [hfits.ubits, Nat.shiftRight_eq_div_pow, beValue_eq_bitField, hslice]
  rfl

/-- Settles O54: whole bytes are a field, and 64 bits are two halves of 32. -/
theorem accessorsAgree : Obligations.AccessorsAgree := by
  intro v off
  refine ⟨fun nb hnb h => ?_, fun h => ?_⟩
  · have hnb' : nb = 2 ∨ nb = 4 := by simpa using hnb
    obtain ⟨hbe, hle⟩ := getU_eq_ubits (by omega) (by omega) h
    exact ⟨hbe, hle, by rw [getBeS, sbits, hbe], by rw [getLeS, sbits, hle]⟩
  · refine ⟨_, _, _, _, getBeU_of_le (by omega), getBeU_of_le (by omega), getLeU_of_le (by omega),
      getLeU_of_le (by omega), ?_, ?_⟩
    · exact (getBeU_of_le h).trans (congrArg some (beValue_add v off 4 4))
    · exact (getLeU_of_le h).trans (congrArg some (leValue_add v off 4 4))

/-- Settles O55: adjacent fields join, the flag is the reversal of the bytes, and a field is its covering bytes'. -/
theorem ubitsLaws : Obligations.UbitsLaws := by
  intro v v' start w1 w2
  refine ⟨fun u h1 h2 h => ?_, fun u h8 h => ?_, ?_, fun le u u' h h' hbytes => ?_⟩
  · obtain ⟨⟨_, hwidth, hlen, _⟩, rfl⟩ := ubits_eq_some_iff.1 h
    have hleft : FieldFits v start w1 false := ⟨h1, by omega, by omega, nofun⟩
    have hright : FieldFits v (start + w1) w2 false := ⟨h2, by omega, by omega, nofun⟩
    exact ⟨_, _, hleft.ubits, hright.ubits, bitField_add ..⟩
  · obtain ⟨⟨hpos, hwidth, hlen, _⟩, rfl⟩ := ubits_eq_some_iff.1 h
    exact ubits_eq_some_iff.2 ⟨⟨hpos, hwidth, hlen, fun _ => h8⟩, rfl⟩
  · have hidle : byteReverse (bitField v start 8) (8 / 8) = bitField v start 8 := byteReverse_one (bitField_lt ..)
    simp [ubits, fieldFail, hidle]
  · obtain ⟨-, rfl⟩ := ubits_eq_some_iff.1 h
    obtain ⟨-, rfl⟩ := ubits_eq_some_iff.1 h'
    rw [fieldValue, fieldValue, bitField_congr_bytes hbytes]

end Sys2Proof.Machine
end

section
/-! PROOFS. The BFX commands (`44_bit_extractor.md` R332 to R351, R354(b)): each returns the field or the number of its
bytes, or fails, and changes nothing else. -/

namespace Sys2Proof.Machine

section
variable {s : State} {src : Src} {v : List Byte} {start width off nb : Nat} {le : Bool} {i : Instr}

/-! ## What a command returns -/

/-- `BFX.UBITS` on a field that fits (`44_bit_extractor.md` R332). -/
theorem exec_bfxUbits (hv : s.resolve src = some v) (h : FieldFits v start width le) :
    exec (.bfxUbits src start width le) s =
      .next (s.withResult (.field (BitVec.ofNat 64 (fieldValue v start width le)) true)) := by
  change execBfxUbits src start width le s = _
  rw [execBfxUbits, hv, Option.bind_some, h.ubits]
  rfl

/-- `BFX.SBITS` on a field that fits (`44_bit_extractor.md` R333). -/
theorem exec_bfxSbits (hv : s.resolve src = some v) (h : FieldFits v start width le) :
    exec (.bfxSbits src start width le) s =
      .next (s.withResult (.field (BitVec.ofInt 64 (signedValue (fieldValue v start width le) width)) true)) := by
  change execBfxSbits src start width le s = _
  rw [execBfxSbits, hv, Option.bind_some, sbits, h.ubits]
  rfl

/-- The little-endian reading, bit by bit: the bytes of the field in the other order, the bits inside each in their places
(`44_bit_extractor.md` R332). -/
theorem testBit_fieldValue_true {k : Nat} (h8 : width % 8 = 0) (hk : k < width) :
    (fieldValue v start width true).testBit (8 * (k / 8) + (7 - k % 8)) =
      (v.getD ((start + k) / 8) 0).getLsbD (7 - (start + k) % 8) := by
  rw [fieldValue, if_pos rfl, testBit_byteReverse (by omega) (by omega), ← testBit_bitField hk]
  exact congrArg _ (by omega)

/-- A command whose unsigned field is missing (`44_bit_extractor.md` R334). -/
theorem exec_of_unsigned_none {o : Option Nat} (ho : o = none)
    (hi : exec i s = .next (s.withResult (unsignedResult o))) : exec i s = .next (s.withResult (.field 0 false)) := by
  rw [hi, ho]
  rfl

/-- A command whose signed field is missing (`44_bit_extractor.md` R334). -/
theorem exec_of_signed_none {o : Option Int} (ho : o = none)
    (hi : exec i s = .next (s.withResult (signedResult o))) : exec i s = .next (s.withResult (.field 0 false)) := by
  rw [hi, ho]
  rfl

/-- No accessor has its bytes when they leave the sequence, or there is no sequence (`44_bit_extractor.md` R334). -/
theorem bind_access_eq_none (h : (∃ v, s.resolve src = some v ∧ v.length < off + nb) ∨ s.resolve src = none) :
    ((s.resolve src).bind fun v => getBeU v off nb) = none ∧ ((s.resolve src).bind fun v => getLeU v off nb) = none ∧
      ((s.resolve src).bind fun v => getBeS v off nb) = none ∧
      ((s.resolve src).bind fun v => getLeS v off nb) = none := by
  obtain ⟨v, hv, hlen⟩ | hnone := h
  · simp [hv, getBeS, getLeS, getBeU_of_lt hlen, getLeU_of_lt hlen]
  · simp [hnone]

/-- An unsigned big-endian accessor on bytes of the sequence (`44_bit_extractor.md` R336 to R338, R342, R343). -/
theorem exec_of_getBeU (hv : s.resolve src = some v) (hoff : off + nb ≤ v.length)
    (hi : exec i s = .next (s.withResult (unsignedResult ((s.resolve src).bind fun v => getBeU v off nb)))) :
    exec i s = .next (s.withResult (.field (BitVec.ofNat 64 (beValue v off nb)) true)) := by
  rw [hi, hv, Option.bind_some, getBeU_of_le hoff]
  rfl

/-- An unsigned little-endian accessor on bytes of the sequence (`44_bit_extractor.md` R344 to R346, R350, R351). -/
theorem exec_of_getLeU (hv : s.resolve src = some v) (hoff : off + nb ≤ v.length)
    (hi : exec i s = .next (s.withResult (unsignedResult ((s.resolve src).bind fun v => getLeU v off nb)))) :
    exec i s = .next (s.withResult (.field (BitVec.ofNat 64 (leValue v off nb)) true)) := by
  rw [hi, hv, Option.bind_some, getLeU_of_le hoff]
  rfl

/-- A signed big-endian accessor on bytes of the sequence (`44_bit_extractor.md` R339 to R341). -/
theorem exec_of_getBeS (hv : s.resolve src = some v) (hoff : off + nb ≤ v.length)
    (hi : exec i s = .next (s.withResult (signedResult ((s.resolve src).bind fun v => getBeS v off nb)))) :
    exec i s = .next (s.withResult (.field (BitVec.ofInt 64 (signedValue (beValue v off nb) (8 * nb))) true)) := by
  rw [hi, hv, Option.bind_some, getBeS, getBeU_of_le hoff]
  rfl

/-- A signed little-endian accessor on bytes of the sequence (`44_bit_extractor.md` R347 to R349). -/
theorem exec_of_getLeS (hv : s.resolve src = some v) (hoff : off + nb ≤ v.length)
    (hi : exec i s = .next (s.withResult (signedResult ((s.resolve src).bind fun v => getLeS v off nb)))) :
    exec i s = .next (s.withResult (.field (BitVec.ofInt 64 (signedValue (leValue v off nb) (8 * nb))) true)) := by
  rw [hi, hv, Option.bind_some, getLeS, getLeU_of_le hoff]
  rfl

end

/-! ## The general extractor -/

/-- Settles O48: the bits of the field, and those of its bytes reversed. -/
theorem ubitsReadsTheField : Obligations.UbitsReadsTheField := by
  intro s src v start width hv hpos hwidth hlen
  refine ⟨?_, fun h8 => ?_⟩
  · have hfits : FieldFits v start width false := ⟨hpos, hwidth, hlen, nofun⟩
    exact ⟨_, hfits.fieldValue_lt, exec_bfxUbits hv hfits, fun k hk => testBit_bitField hk⟩
  · have hfits : FieldFits v start width true := ⟨hpos, hwidth, hlen, fun _ => h8⟩
    exact ⟨_, hfits.fieldValue_lt, exec_bfxUbits hv hfits, fun k hk => testBit_fieldValue_true h8 hk⟩

/-- Settles O49: both commands read one field, and its two's-complement reading fits 64 bits. -/
theorem sbitsReadsSigned : Obligations.SbitsReadsSigned := by
  intro s src v start width le hv hpos hwidth hlen hle
  have hfits : FieldFits v start width le := ⟨hpos, hwidth, hlen, hle⟩
  have hlt := hfits.fieldValue_lt
  obtain ⟨hlow, hhigh⟩ := signedValue_bounds hpos hlt
  exact ⟨_, _, exec_bfxUbits hv hfits, hlt, exec_bfxSbits hv hfits,
    toInt_ofInt_signedValue hpos (by omega) hlt, hlow, hhigh, rfl⟩

/-- Settles O50: there is no field to return, by the operand, by the conditions of a field, or by the length. -/
theorem bfxFailures : Obligations.BfxFailures := by
  intro s src start width off le
  refine ⟨fun h => ?_, fun p hp h => ?_⟩
  · have hfail : ∀ v, s.resolve src = some v → ubits v start width le = none := by
      intro v hv
      rw [ubits_eq_none_iff]
      rintro ⟨hpos, hwidth, hlen, hle⟩
      obtain h0 | h56 | ⟨v', hv', hlen'⟩ | ⟨hletrue, h8⟩ | hsrc := h
      · omega
      · omega
      · obtain rfl : v = v' := Option.some.inj (hv.symm.trans hv')
        omega
      · exact h8 (hle hletrue)
      · exact nomatch hsrc.symm.trans hv
    exact ⟨exec_of_unsigned_none (Option.bind_eq_none_iff.2 hfail) rfl, exec_of_signed_none
      (Option.bind_eq_none_iff.2 fun v hv => by rw [sbits, hfail v hv, Option.map_none]) rfl⟩
  · obtain ⟨hbeU, hleU, hbeS, hleS⟩ := bind_access_eq_none h
    fin_cases hp
    iterate 3 exact exec_of_unsigned_none hbeU rfl
    iterate 3 exact exec_of_signed_none hbeS rfl
    iterate 2 exact exec_of_unsigned_none hbeU rfl
    iterate 3 exact exec_of_unsigned_none hleU rfl
    iterate 3 exact exec_of_signed_none hleS rfl
    iterate 2 exact exec_of_unsigned_none hleU rfl

/-! ## The accessors -/

/-- Settles O52: each row of the two tables runs its accessor, whose digits are its bytes. -/
theorem unsignedAccessors : Obligations.UnsignedAccessors := by
  intro s src v off hv
  refine ⟨fun p hp hoff => ?_, fun p hp hoff => ?_⟩
  · suffices hrow : (encode (p.1 src off)).2.head? = some p.2.2 ∧
        exec (p.1 src off) s =
          .next (s.withResult (unsignedResult ((s.resolve src).bind fun v => getBeU v off p.2.1))) from
      ⟨hrow.1, _, beValue_lt .., exec_of_getBeU hv hoff hrow.2, fun j hj => beValue_digit hj⟩
    fin_cases hp <;> exact ⟨rfl, rfl⟩
  · suffices hrow : (encode (p.1 src off)).2.head? = some p.2.2 ∧
        exec (p.1 src off) s =
          .next (s.withResult (unsignedResult ((s.resolve src).bind fun v => getLeU v off p.2.1))) from
      ⟨hrow.1, _, leValue_lt .., exec_of_getLeU hv hoff hrow.2, fun j hj => leValue_digit hj⟩
    fin_cases hp <;> exact ⟨rfl, rfl⟩

/-- Settles O53: each signed row reads the bytes its unsigned row reads. -/
theorem signedAccessors : Obligations.SignedAccessors := by
  intro s src v off hv p hp hoff
  fin_cases hp
  iterate 3
    exact ⟨rfl, _, _, exec_of_getBeU hv hoff rfl, exec_of_getBeS hv hoff rfl, beValue_lt ..,
      toInt_ofInt_signedValue (by decide) (by decide) (beValue_lt ..), rfl⟩
  iterate 3
    exact ⟨rfl, _, _, exec_of_getLeU hv hoff rfl, exec_of_getLeS hv hoff rfl, leValue_lt ..,
      toInt_ofInt_signedValue (by decide) (by decide) (leValue_lt ..), rfl⟩

end Sys2Proof.Machine
end

section
/-! PROOFS. The error events (`60_exceptions.md` R371 to R383): the table of what each leaves, and that a step within a
`LEX.PARSE` raises at most one. -/

namespace Sys2Proof.Machine

section
variable {s t : State}

/-! ## The table of the events -/

/-- Whatever the event, it writes no register but those of `60_exceptions.md` R378 and R380. -/
theorem State.raise_record (s : State) (e : Event) :
    s.raise e =
      { s with
        state := .groundState, pending := 0, jsonDepth := 0, rp := 0
        inbuf := (s.raise e).inbuf, inlen := (s.raise e).inlen
        log := s.log ++ [⟨e.severity, e⟩], result := (s.raise e).result, source := (s.raise e).source } := by
  cases e <;> rfl

/-- The events that discard the candidate move the bytes behind it to the head of the buffer. -/
theorem State.raise_discards_candidate {e : Event} (he : e.discards = .candidate) :
    (s.raise e).inlen = s.inlen - s.rp ∧
      ∀ i, i < s.inlen - s.rp → (s.raise e).inbuf.byteAt? i = s.inbuf.byteAt? (s.rp + i) := by
  have hbuf : (s.raise e).inlen = s.inlen - s.rp ∧ (s.raise e).inbuf = s.inbuf.window s.rp s.inlen := by
    cases e with
    | framing | badCheck | oversize => exact ⟨rfl, rfl⟩
    | length | full => cases he
  obtain ⟨hlen, hin⟩ := hbuf
  refine ⟨hlen, fun i hi => ?_⟩
  rw [hin, Memory.byteAt?_window, if_pos (by omega)]

/-! ## One event at most -/

/-- The log of `t` is that of `s`, or has one entry more, whose event decides whether the command goes on
(`60_exceptions.md` R379, R383). -/
def State.LogsAtMostOne (s t : State) : Prop :=
  t.log = s.log ∨ ∃ e : Event, t.log = s.log ++ [⟨e.severity, e⟩] ∧
    (∀ tag cap, e.ends = some (tag, cap) → t.result = .parse tag 0 cap ∧ t.source = .host) ∧
    (e.ends = none → t.source = .stream ∧ t.result = s.result)

theorem State.raise_logsAtMostOne (hs : s.source = .stream) (e : Event) : s.LogsAtMostOne (s.raise e) := by
  refine .inr ⟨e, ?_, fun tag cap he => ?_, fun he => ?_⟩
  · rw [s.raise_record e]
  · cases e <;> cases he <;> exact ⟨rfl, rfl⟩
  · cases e <;> cases he
    exact ⟨hs, rfl⟩

/-- Of the five actions only a pushback, a capacity violation and a recognition raise an event, each one. -/
theorem perform_logsAtMostOne (hs : s.source = .stream) (tr : Trans) : s.LogsAtMostOne (perform s tr) := by
  rcases perform_cases s tr with ⟨q, -, he⟩ | ⟨q, -, he⟩ | ⟨q, -, he⟩ | ⟨-, he⟩ | ⟨r, -, he⟩ <;> rw [he]
  · exact .inl rfl
  · rcases (s.loadTrans tr).pushback_cases q with ⟨-, hp⟩ | ⟨-, -, hp⟩ | ⟨-, -, hp⟩ <;> rw [hp]
    · exact .inl rfl
    · exact State.raise_logsAtMostOne (s := (s.loadTrans tr).rewind.goto q) hs .framing
    · exact .inl rfl
  · exact .inl rfl
  · exact State.raise_logsAtMostOne (s := s.loadTrans tr) hs .length
  · rcases (s.loadTrans tr).recognise_cases r with ⟨ty, n, -, -, -, hp⟩ | ⟨e, hp⟩ <;> rw [hp]
    · exact .inl rfl
    · exact State.raise_logsAtMostOne (s := (s.loadTrans tr).goto r.state) hs e

theorem State.exhausted_logsAtMostOne (hs : s.source = .stream) : s.LogsAtMostOne s.exhausted := by
  rcases s.exhausted_cases with ⟨-, he⟩ | ⟨-, he⟩ <;> rw [he]
  · exact State.raise_logsAtMostOne hs .full
  · exact .inl rfl

/-- The stash writes neither the log nor what the host reads (log entry 8). -/
theorem State.LogsAtMostOne.applyStash {u : State} (h : s.LogsAtMostOne t) : s.LogsAtMostOne (u.applyStash t) := by
  simpa only [State.LogsAtMostOne, State.applyStash_log, State.applyStash_result, State.applyStash_source] using h

end

/-- Settles O20: the records of the five events, event by event. -/
theorem eventTable : Obligations.EventTable := by
  intro s e
  obtain ⟨hstate, hpending, hdepth, hrp⟩ := s.raise_idle e
  refine ⟨hstate, hpending, hdepth, hrp, s.raise_record e, fun he => State.raise_discards_candidate ?_, ?_, ?_, ?_, ?_,
    ?_⟩
  · rcases he with rfl | rfl | rfl <;> rfl
  · rintro (rfl | rfl) <;> rfl
  · rintro rfl
    exact ⟨rfl, rfl, rfl⟩
  · rintro rfl
    exact ⟨rfl, rfl, rfl⟩
  · rintro (rfl | rfl) <;> exact ⟨rfl, rfl, rfl⟩
  · rintro rfl
    exact ⟨rfl, rfl, rfl⟩

/-- Settles O19: a step is the final `Exhausted` or an iteration, whose action raises at most one event and whose stash
raises none. -/
theorem oneEventPerIteration : Obligations.OneEventPerIteration := by
  intro s t hs ht
  by_cases hrp : s.rp = s.inlen
  · cases (step_stream_exhausted hs hrp).symm.trans ht
    exact State.exhausted_logsAtMostOne hs
  · obtain ⟨-, rfl⟩ := iteration_next ((step_stream_rule hs hrp).symm.trans ht)
    exact (perform_logsAtMostOne (s := s.consume) hs _).applyStash

end Sys2Proof.Machine
end

section
/-! PROOFS. The byte counter (`10_state.md` R30, `60_exceptions.md` R386): every iteration advances it by the bytes it
takes out of the unconsumed ones, unless it discards the whole buffer. -/

namespace Sys2Proof.Machine

/-- From `s` to `t` some number of bytes was consumed for good, and `counter` advanced by it. -/
def State.CountsTo (s t : State) : Prop :=
  ∃ n, s.inlen - s.rp = t.inlen - t.rp + n ∧ t.counter = s.counter + BitVec.ofNat 64 n

/-- `t` is within a `LEX.PARSE`, or after one that reported no loss of the buffer (`60_exceptions.md` R373, R374). -/
def State.NoBufferLost (t : State) : Prop := t.source = .stream ∨ t.result ≠ .parse .none 0 true

section
variable {s t u : State}

theorem State.CountsTo.trans (h : s.CountsTo u) (h' : u.CountsTo t) : s.CountsTo t := by
  obtain ⟨n, hn, hc⟩ := h
  obtain ⟨m, hm, hc'⟩ := h'
  exact ⟨m + n, by omega, by rw [hc', hc, BitVec.ofNat_add, BitVec.add_assoc, BitVec.add_comm (BitVec.ofNat 64 n)]⟩

/-- Nothing consumed for good. -/
theorem State.countsTo_of_same (hu : t.inlen - t.rp = s.inlen - s.rp) (hc : t.counter = s.counter) : s.CountsTo t :=
  ⟨0, hu.symm, by simp [hc]⟩

/-- One byte consumed for good. -/
theorem State.countsTo_of_consumed (hlt : s.rp < s.inlen) (hu : t.inlen - t.rp = s.inlen - (s.rp + 1))
    (hc : t.counter = s.counter + 1) : s.CountsTo t :=
  ⟨1, by omega, hc⟩

/-- `E_LENGTH` and `E_FULL` report the loss of the buffer. -/
theorem State.not_noBufferLost_of_wholeBuffer {e : Event} (he : e.discards = .wholeBuffer) :
    ¬(s.raise e).NoBufferLost := by
  cases e with
  | framing | badCheck | oversize => cases he
  | length | full =>
    rintro (hs | hr)
    · cases hs
    · exact hr rfl

/-- An event that does not report the loss of the buffer leaves the unconsumed bytes and the count. -/
theorem State.raise_unread {e : Event} (h : (s.raise e).NoBufferLost) :
    (s.raise e).inlen - (s.raise e).rp = s.inlen - s.rp ∧ (s.raise e).counter = s.counter := by
  cases e with
  | framing | badCheck | oversize => exact ⟨rfl, rfl⟩
  | length | full => exact absurd h (State.not_noBufferLost_of_wholeBuffer rfl)

/-- A pushback takes the byte back from the count (`40_lexer_core.md` R138). -/
theorem State.pushback_counter (s : State) (q : LexState) : (s.pushback q).counter = s.counter - 1 := by
  rcases s.pushback_cases q with ⟨-, h⟩ | ⟨-, -, h⟩ | ⟨-, -, h⟩ <;> rw [h] <;> rfl

/-- A recognition that does not report the loss of the buffer: both the packet and the failed candidate leave the
unconsumed bytes and the count. -/
theorem State.recognise_unread {r : Recog} (h : (s.recognise r).NoBufferLost) :
    (s.recognise r).inlen - (s.recognise r).rp = s.inlen - s.rp ∧ (s.recognise r).counter = s.counter := by
  rcases s.recognise_cases r with ⟨ty, n, -, -, -, hp⟩ | ⟨e, hp⟩ <;> rw [hp] at h ⊢
  · exact ⟨rfl, rfl⟩
  · exact State.raise_unread (s := s.goto r.state) h

/-- Every action the state permits counts the byte of its iteration, but a pushback, which gives it back. -/
theorem State.Inv.countsTo_perform (h : s.Inv) (hlt : s.rp < s.inlen) {tr : Trans} (hp : s.Permits tr)
    (hn : (perform s.consume tr).NoBufferLost) : s.CountsTo (perform s.consume tr) := by
  unfold State.Permits at hp
  rcases perform_cases s.consume tr with ⟨q, -, he⟩ | ⟨q, -, he⟩ | ⟨q, ha, he⟩ | ⟨-, he⟩ | ⟨r, -, he⟩ <;>
    rw [he] at hn ⊢
  · exact State.countsTo_of_consumed hlt rfl rfl
  · obtain ⟨-, hunread⟩ := (s.consume.loadTrans tr).pushback_unread q
    exact State.countsTo_of_same hunread
      (((s.consume.loadTrans tr).pushback_counter q).trans (BitVec.add_sub_cancel s.counter 1))
  · rw [ha] at hp
    obtain ⟨-, -, h0⟩ := h.idle hp
    exact State.countsTo_of_consumed hlt (by simp [State.drop, h0]) rfl
  · exact absurd hn (State.not_noBufferLost_of_wholeBuffer rfl)
  · obtain ⟨hunread, hcount⟩ := State.recognise_unread hn
    exact State.countsTo_of_consumed hlt hunread hcount

theorem State.Inv.countsTo_iterate (h : s.Inv) (hrp : s.rp ≠ s.inlen) (hi : iterate s = .next t)
    (hn : t.NoBufferLost) : s.CountsTo t := by
  cases (h.iterate_eq hrp).symm.trans hi
  exact h.countsTo_perform (h.rp_lt hrp) (h.rule_permits _) hn

/-- The final test consumes nothing (`40_lexer_core.md` R135). -/
theorem State.countsTo_exhausted (hn : s.exhausted.NoBufferLost) : s.CountsTo s.exhausted := by
  rcases s.exhausted_cases with ⟨-, he⟩ | ⟨-, he⟩ <;> rw [he] at hn ⊢
  · exact absurd hn (State.not_noBufferLost_of_wholeBuffer rfl)
  · exact State.countsTo_of_same rfl rfl

/-- What every iteration and the final `Exhausted` count, the whole `LEX.PARSE` counts. -/
theorem State.Inv.countsTo_execLexParse (h : s.Inv) (ht : execLexParse s = .next t) (hn : t.NoBufferLost) :
    s.CountsTo t := by
  have hstart : State.Inv { s with source := .stream } := (h.kept_host s.result s.port .stream).1
  have hloop : t.Inv ∧ (t.NoBufferLost → s.CountsTo t) :=
    parseLoop_induct (P := fun v => v.Inv ∧ (v.NoBufferLost → s.CountsTo v))
      (fun _ _ ⟨hinv, hcount⟩ hs hrp hi =>
        ⟨(hinv.kept_iterate hi).1, fun hv => (hcount (.inl hs)).trans (hinv.countsTo_iterate hrp hi hv)⟩)
      (fun _ ⟨hinv, hcount⟩ hs _ =>
        ⟨hinv.kept_exhausted.1, fun hv => (hcount (.inl hs)).trans (State.countsTo_exhausted hv)⟩)
      rfl ⟨hstart, fun _ => State.countsTo_of_same rfl rfl⟩ ht
  exact hloop.2 hn

end

/-- Settles O9: by induction over the loop, each of whose passes counts the bytes it consumes for good. -/
theorem counterCountsConsumedBytes : Obligations.CounterCountsConsumedBytes := by
  intro s t h ht hres
  obtain ⟨n, hunread, hcount⟩ := h.countsTo_execLexParse ht (.inr hres)
  rw [hcount, hunread, Nat.add_sub_cancel_left]

end Sys2Proof.Machine
end
